-- ==== Sys2Proof/Word.lean ====
section
/-! DEFINITION. The widths of the engine's transfers (R9, R10, R36) and the request frame the host sends (R23). -/

namespace Sys2Proof

/-- One quantized channel, an unsigned integer in [0, 255] (R16, R28). -/
abbrev Byte := BitVec 8

/-- A 32-bit pattern: a command word, a STATUS word or a packed word (R23, R24, R28). -/
abbrev Word := BitVec 32

/-- A 64-bit operand or result slot (R23, R24). -/
abbrev Slot := BitVec 64

/-- An IEEE 754 binary64 value, carried as its 64-bit pattern (R12, R28). -/
abbrev Channel := BitVec 64

/-- A request frame (R23): the command word and four operand slots. -/
structure Request where
  cmd : Word
  operand0 : Slot
  operand1 : Slot
  operand2 : Slot
  operand3 : Slot
  deriving DecidableEq, Repr

/-- `sint32` (R10): the two's-complement reading of a 32-bit pattern. -/
abbrev sint32 (w : Word) : Int := w.toInt

/-- `bits32` (R10): the 32-bit pattern of an integer modulo 2^32. -/
abbrev bits32 (n : Int) : Word := BitVec.ofInt 32 n

/-- `zext_64` (R10): widening with zeros. -/
abbrev zext64 {n : Nat} (v : BitVec n) : Slot := v.setWidth 64

/-- `zext_32` (R10): widening with zeros. -/
abbrev zext32 {n : Nat} (v : BitVec n) : Word := v.setWidth 32

end Sys2Proof
end

