-- ==== Sys2Proof/Config.lean ====
section
/-! DEFINITION. The parameter of R7 that the spec leaves open and the model holds as a constant: HOST_BYTE_ORDER. LATENCY, open too, is
the number of wait moves in a state's schedule (log entry 12), and ENGINE_INSTANCES the length of an array (log entry 8). The
parameters the spec fixes stand beside the operations that use them: the widths in Word.lean, SCALE and NAN_BYTE in
Machine/Quantization.lean, LANE_OFFSET in Machine/Packing.lean, rounding and clamping in Machine/Binary64.lean. -/

namespace Sys2Proof

/-- The two byte orders R34 names for a host's own memory. -/
inductive ByteOrder where
  | bigEndian
  | littleEndian
  deriving DecidableEq, Repr, Inhabited

/-- HOST_BYTE_ORDER (R7, R34; OPEN, D23): nothing in the model can see which it is (log entry 10). -/
opaque Config.hostByteOrder : ByteOrder

end Sys2Proof
end

