-- ==== Sys2Proof/Machine/Binary64.lean ====
section
/-! DEFINITION. IEEE 754 binary64 values and the floating-point primitives of R12, R13 and R14, in exact integer arithmetic.
The magnitude of a finite value is a whole number of units of 2^-1074, the least positive subnormal (PRESUMED, log entry 4). -/

namespace Sys2Proof.Machine

/-- Bit 63, the sign (R12). -/
def signBit (x : Channel) : Bool := x.getLsbD 63

/-- Bits 62:52, the biased exponent (R12). -/
def expField (x : Channel) : Nat := (x.extractLsb' 52 11).toNat

/-- Bits 51:0, the fraction (R12). -/
def fracField (x : Channel) : Nat := (x.extractLsb' 0 52).toNat

/-- `isNaN` (R12): exponent 0x7FF and a nonzero fraction, whatever the sign and the payload. -/
def isNaN (x : Channel) : Bool := expField x == 0x7FF && fracField x != 0

/-- ±∞ (R12): exponent 0x7FF and fraction 0. -/
def isInf (x : Channel) : Bool := expField x == 0x7FF && fracField x == 0

/-- Neither a NaN nor an infinity (R12). -/
def isFinite (x : Channel) : Bool := expField x != 0x7FF

/-- How many units of 2^-1074 make 1.0. -/
def unitsPerOne : Nat := 2 ^ 1074

/-- The magnitude of a finite value, in units of 2^-1074 (R12; the subnormal case PRESUMED, log entry 4). -/
def magUnits (x : Channel) : Nat :=
  if expField x = 0 then fracField x else (2 ^ 52 + fracField x) * 2 ^ (expField x - 1)

/-- `real(x)` (R12): the exact real number a finite value denotes; both zeros denote 0. -/
def real (x : Channel) : ℚ :=
  (if signBit x then -1 else 1) * (magUnits x : ℚ) / (unitsPerOne : ℚ)

/-- The integer nearest `n / d`, the even one when two are equally near. -/
def roundToEven (n d : Nat) : Nat :=
  if 2 * (n % d) < d then n / d
  else if d < 2 * (n % d) then n / d + 1
  else if (n / d) % 2 = 0 then n / d else n / d + 1

/-- The binary exponent above the lowest binade at which the quotient `n / d`, in units of 2^-1074, is rounded. -/
def roundingShift (n d : Nat) : Nat := (n / d).log2 - 52

/-- The pattern, sign bit clear, of the binary64 value nearest `n / d` units of 2^-1074, ties to even; ∞ past the range. -/
def rneMagnitude (n d : Nat) : Nat :=
  min (roundingShift n d * 2 ^ 52 + roundToEven n (d * 2 ^ roundingShift n d)) 0x7FF0000000000000

/-- `rne64` (R13) of the real ± `n / d` units of 2^-1074 (`d` positive). The sign of a zero result and the result past the
range, which no command reaches, are PRESUMED (log entry 4). -/
def rne64 (neg : Bool) (n d : Nat) : Channel :=
  BitVec.ofNat 64 (rneMagnitude n d + if neg then 2 ^ 63 else 0)

/-- `fmul64` (R13): the correctly rounded product of two finite values. -/
def fmul64 (a b : Channel) : Channel :=
  rne64 (signBit a != signBit b) (magUnits a * magUnits b) unitsPerOne

/-- `fdiv64` (R13): the correctly rounded quotient of two finite values, the second not zero. -/
def fdiv64 (a b : Channel) : Channel :=
  rne64 (signBit a != signBit b) (magUnits a * unitsPerOne) (magUnits b)

/-- The pattern of +0.0. -/
def posZero : Channel := 0x0000000000000000#64

/-- The pattern of 1.0. -/
def one64 : Channel := 0x3FF0000000000000#64

/-- The binary64 value of a byte, exact, written `uint(k)` where R62 divides it. -/
def channelOfByte (k : Byte) : Channel := rne64 false (k.toNat * unitsPerOne) 1

/-- `real(x) ≤ 0` as R14 reads it: −0.0, every negative value and −∞ among them. -/
def atMostZero (x : Channel) : Bool := signBit x || magUnits x == 0

/-- `real(x) ≥ 1` for a value whose sign bit is clear, as R14 reads it: +∞ among them. -/
def atLeastOne (x : Channel) : Bool := isInf x || decide (unitsPerOne ≤ magUnits x)

/-- `clamp01` (R14) of a non-NaN value. -/
def clamp01 (x : Channel) : Channel :=
  if atMostZero x then posZero else if atLeastOne x then one64 else x

/-- `roundHalfUp(real(y))` (R14) for a finite `y` whose sign bit is clear: the floor of `real(y) + 1/2`, exactly. -/
def roundHalfUp (y : Channel) : Nat := (2 * magUnits y + unitsPerOne) / (2 * unitsPerOne)

end Sys2Proof.Machine
end

