-- ==== Sys2Proof/Syntax.lean ====
section
/-! DEFINITION. The six commands of the opcode map (R3, R45), each with the operands R47 gives it. A term of `Instr` is one
command whole: the engine has no register numbers, modes or immediates (R19, R44), so a command's operands are data. Every
term is well formed, because each operand has exactly the width R47 reads. -/

namespace Sys2Proof

/-- One command of the command set, with its operands (R45, R47). -/
inductive Instr where
  /-- PACK: quantize four channel values and pack them (R71). -/
  | pack (r g b a : Channel)
  /-- UNPACK: unpack one word into four channel values (R75). -/
  | unpack (w : Word)
  /-- EXTRACTALPHA: extract only the alpha channel of a word (R79). -/
  | extractalpha (w : Word)
  /-- SIGNFIX: apply SignFix to one integer (R84). -/
  | signfix (v : Word)
  /-- QUANTIZE: quantize one channel value (R66). -/
  | quantize (x : Channel)
  /-- DEQUANTIZE: turn one byte back into a channel value (R67). -/
  | dequantize (k : Byte)
  deriving DecidableEq, Repr

/-- The OP value of a command (R45). -/
def Instr.op : Instr → BitVec 3
  | .pack _ _ _ _ => 0
  | .unpack _ => 1
  | .extractalpha _ => 2
  | .signfix _ => 3
  | .quantize _ => 4
  | .dequantize _ => 5

/-- The mnemonic of a command, as the opcode map spells it (R45). -/
def Instr.mnemonic : Instr → String
  | .pack _ _ _ _ => "PACK"
  | .unpack _ => "UNPACK"
  | .extractalpha _ => "EXTRACTALPHA"
  | .signfix _ => "SIGNFIX"
  | .quantize _ => "QUANTIZE"
  | .dequantize _ => "DEQUANTIZE"

end Sys2Proof
end

