-- ==== Sys2Proof/WellFormed.lean ====
section
/-! DEFINITION. What the spec calls well formed: command words (R25, R44, R50), assembler literals and assembled lines (R52, R53).
A term of `Instr` needs no check (Syntax.lean). -/

namespace Sys2Proof

/-- A command word that selects a command (R25): RSV, bits 31:3, is 0 and OP, bits 2:0, is 0 to 5. -/
def cmdWellFormed (cmd : Word) : Bool :=
  cmd.extractLsb' 3 29 == 0 && decide ((cmd.extractLsb' 0 3).toNat ≤ 5)

/-- A `<chan>` literal (R53). -/
inductive ChanLit where
  /-- A decimal number: its sign, its digits read as one integer, and the power of ten that scales them. -/
  | decimal (neg : Bool) (digits : Nat) (exp10 : Int)
  /-- `f64:0x…`, an exact 64-bit pattern. -/
  | f64 (bits : Channel)
  | nan
  | inf
  | negInf
  deriving DecidableEq, Repr

/-- A `<word>`, `<int32>` or `<byte>` literal (R53), before its range is checked. -/
inductive IntLit where
  /-- A decimal integer. -/
  | decimal (n : Int)
  /-- `0x` and hexadecimal digits: how many, and their value. -/
  | hex (digits : Nat) (value : Nat)
  deriving DecidableEq, Repr

/-- A hexadecimal literal of exactly `digits` digits. -/
def IntLit.hexOf (digits : Nat) : IntLit → Bool
  | .hex d v => d == digits && decide (v < 16 ^ digits)
  | .decimal _ => false

/-- `<word>` (R53): eight hexadecimal digits, or a decimal integer in [-2^31, 2^32 - 1]. -/
def IntLit.wordOk : IntLit → Bool
  | .decimal n => decide (-2147483648 ≤ n) && decide (n ≤ 4294967295)
  | l => l.hexOf 8

/-- `<int32>` (R53): eight hexadecimal digits, or a decimal integer in [-2^31, 2^31 - 1]. -/
def IntLit.int32Ok : IntLit → Bool
  | .decimal n => decide (-2147483648 ≤ n) && decide (n ≤ 2147483647)
  | l => l.hexOf 8

/-- `<byte>` (R53): two hexadecimal digits, or a decimal integer in [0, 255]. -/
def IntLit.byteOk : IntLit → Bool
  | .decimal n => decide (0 ≤ n) && decide (n ≤ 255)
  | l => l.hexOf 2

/-- One line of a program (R52, R54): one of the six commands, or the directive `.frame`. -/
inductive AsmLine where
  | pack (r g b a : ChanLit)
  | unpack (w : IntLit)
  | extractalpha (w : IntLit)
  | signfix (v : IntLit)
  | quantize (x : ChanLit)
  | dequantize (k : IntLit)
  /-- `.frame <CMD> <OPERAND0> <OPERAND1> <OPERAND2> <OPERAND3>`. -/
  | frame (cmd operand0 operand1 operand2 operand3 : Nat)
  deriving DecidableEq, Repr

/-- A line whose literals lie in the ranges R53 gives them; an assembler rejects every other line. R53 and R54 give the numbers of
`.frame` no range: the model rejects one that does not fit its field, 32 bits for CMD and 64 for an operand, and does not
count its digits (DESIGN CHOICE, log entry 14). -/
def AsmLine.wellFormed : AsmLine → Bool
  | .pack _ _ _ _ => true
  | .unpack w => w.wordOk
  | .extractalpha w => w.wordOk
  | .signfix v => v.int32Ok
  | .quantize _ => true
  | .dequantize k => k.byteOk
  | .frame c o0 o1 o2 o3 =>
    decide (c < 2 ^ 32) && decide (o0 < 2 ^ 64) && decide (o1 < 2 ^ 64) && decide (o2 < 2 ^ 64) && decide (o3 < 2 ^ 64)

end Sys2Proof
end

