-- ==== Sys2Proof/Decode.lean ====
section
/-! DEFINITION. Decoding a request frame (R46), assembling its operands (R47), and the encoder (R45, R54). Decoding is total:
every frame gives one of the six commands or IllegalCommand, and no operand bit takes part in the choice (R90). -/

namespace Sys2Proof

/-- Why a frame decodes to no command. There is one reason only (R88, R90). -/
inductive CommandError where
  /-- IllegalCommand: CMD[31:3] is nonzero, or CMD[2:0] is 6 or 7 (R46, R88). -/
  | illegalCommand
  deriving DecidableEq, Repr

/-- OP, the command-select field CMD[2:0] (R25, R44). -/
def cmdOp (cmd : Word) : BitVec 3 := cmd.extractLsb' 0 3

/-- RSV, the reserved field CMD[31:3] (R25, R44). -/
def cmdRsv (cmd : Word) : BitVec 29 := cmd.extractLsb' 3 29

/-- Operand assembly of a 32-bit packed word or integer: OPERAND0[31:0] (R47). -/
def wordOperand (req : Request) : Word := req.operand0.extractLsb' 0 32

/-- Operand assembly of a byte: OPERAND0[7:0] (R47). -/
def byteOperand (req : Request) : Byte := req.operand0.extractLsb' 0 8

/-- `Decode` of R46 with the operand assembly of R47. -/
def decodeFrame (req : Request) : Except CommandError Instr :=
  if cmdRsv req.cmd ≠ 0 then .error .illegalCommand
  else
    match (cmdOp req.cmd).toNat with
    | 0 => .ok (.pack req.operand0 req.operand1 req.operand2 req.operand3)
    | 1 => .ok (.unpack (wordOperand req))
    | 2 => .ok (.extractalpha (wordOperand req))
    | 3 => .ok (.signfix (wordOperand req))
    | 4 => .ok (.quantize req.operand0)
    | 5 => .ok (.dequantize (byteOperand req))
    | _ => .error .illegalCommand

/-- The command word of a command, from the opcode map (R44, R45). -/
def commandWord : Instr → Word
  | .pack _ _ _ _ => 0x00000000#32
  | .unpack _ => 0x00000001#32
  | .extractalpha _ => 0x00000002#32
  | .signfix _ => 0x00000003#32
  | .quantize _ => 0x00000004#32
  | .dequantize _ => 0x00000005#32

/-- The frame of a command as the assembler lays it out (R54): CMD is the word of R45, each operand stands in the slot and
bits of R47, and every other bit is 0. -/
def encode (i : Instr) : Request :=
  match i with
  | .pack r g b a => ⟨commandWord i, r, g, b, a⟩
  | .unpack w => ⟨commandWord i, zext64 w, 0, 0, 0⟩
  | .extractalpha w => ⟨commandWord i, zext64 w, 0, 0, 0⟩
  | .signfix v => ⟨commandWord i, zext64 v, 0, 0, 0⟩
  | .quantize x => ⟨commandWord i, x, 0, 0, 0⟩
  | .dequantize k => ⟨commandWord i, zext64 k, 0, 0, 0⟩

/-- A frame from its 288 bits (R51), numbered from bit 0 of CMD upward: CMD, then OPERAND0 to OPERAND3 (DEDUCED; log entry 6). -/
def frameOfBits (w : Nat) : Request where
  cmd := BitVec.ofNat 32 w
  operand0 := BitVec.ofNat 64 (w / 2 ^ 32)
  operand1 := BitVec.ofNat 64 (w / 2 ^ 96)
  operand2 := BitVec.ofNat 64 (w / 2 ^ 160)
  operand3 := BitVec.ofNat 64 (w / 2 ^ 224)

/-- The frame whose low `nbits` bits are those of `w` and whose other bits are 0. -/
def frameOfTableWord (nbits w : Nat) : Request := frameOfBits (w % 2 ^ nbits)

/-- The command the decoder reads from a frame whose low `nbits` bits are `w`, the rest zero. -/
def decodeTableWord (nbits w : Nat) : Option Instr :=
  match decodeFrame (frameOfTableWord nbits w) with
  | .ok i => some i
  | .error .illegalCommand => none

end Sys2Proof
end

