-- ==== Sys2Proof/Machine/State.lean ====
section
/-! DEFINITION. The state of one engine instance and its host (R18, R22, R24, R30), its faults and refusals, and the state right
after reset. The engine's own state is the handshake alone; registers, program counter, flags and memory do not exist
(R19, R20, R21, R32). The fields `schedule`, `observed` and `faulted` are the model's, not the engine's (log entries 1, 3). -/

namespace Sys2Proof.Machine

/-- A response frame (R24): the STATUS word and four result slots. -/
structure Response where
  status : Word
  result0 : Slot
  result1 : Slot
  result2 : Slot
  result3 : Slot
  deriving DecidableEq, Repr

/-- The handshake of one engine instance (R22). -/
inductive Handshake where
  | idle
  /-- One accepted request is in flight. -/
  | busy (req : Request)
  deriving DecidableEq, Repr

/-- One move of a run: an interaction of R106, or the passing of time (R104). -/
inductive Move where
  /-- The host issues a request; enabled only while Idle (R22, R105). -/
  | issue (req : Request)
  /-- The engine completes the request in flight; enabled only while Busy (R22). -/
  | complete
  /-- Time passes and nothing else happens: one unit of the open parameter LATENCY (R104). -/
  | wait
  /-- The host asserts reset (R100, R106). -/
  | reset
  deriving DecidableEq, Repr

/-- One completed transaction: a request and the response delivered for it (R22, R108). -/
structure Transaction where
  request : Request
  response : Response
  deriving DecidableEq, Repr

/-- One engine instance together with what its host has done and will do. -/
structure State where
  /-- The handshake, the engine's only state (R22); it holds the request frame in flight (R23). -/
  hs : Handshake
  /-- The response frame last delivered, until the host issues again (R24, R106; DESIGN CHOICE, log entry 2). -/
  response : Option Response
  /-- The moves to come, first one first: the host's, and how long completions take (DESIGN CHOICE, log entry 1). -/
  schedule : List Move
  /-- The observation of the run so far: the transactions in order of acceptance (R108). -/
  observed : List Transaction
  /-- The launch state's record that some command was illegal, never cleared (R109; log entry 3). -/
  faulted : Bool
  deriving DecidableEq, Repr

/-- Why a step may stop with a fault. -/
inductive Fault where
  /-- A request with an illegal command word was completed (R88, R89). Raised by `strictStep` only, the view of a step in which
  the ILLEGAL response is the step's fault outcome (R8, R89, R109); `step` delivers the response and goes on. Safe: the run
  stops where the engine would go on. -/
  | illegalCommand
  deriving DecidableEq, Repr

/-- Why a step may be refused. -/
inductive Refusal where
  /-- The command has no meaning in the model yet. Raised by `exec`'s arm for it; no arm of this model does. Safe: nothing is
  claimed of such a command. -/
  | notModelled (mnemonic : String)
  deriving DecidableEq, Repr

/-- The machine right after reset (R30, R100): Idle, no request held, no response pending; the host has done nothing yet. -/
def State.reset : State where
  hs := .idle
  response := none
  schedule := []
  observed := []
  faulted := false

end Sys2Proof.Machine
end

