-- ==== Sys2Proof/Machine/Flags.lean ====
section
/-! DEFINITION. The engine has no flags, condition codes or IEEE 754 flags (R21, R27). Its one per-command indication is the
STATUS field of the response (R26), whose two values and readings stand here. -/

namespace Sys2Proof.Machine

/-- STATUS of a command that executed (R26, R88). -/
def statusExecuted : Word := 0x00000000#32

/-- STATUS of an illegal command: ILLEGAL, bit 0, set (R26, R88). -/
def statusIllegal : Word := 0x00000001#32

/-- STATUS.ILLEGAL, bit 0 (R26). -/
def Response.illegal (rsp : Response) : Bool := rsp.status.getLsbD 0

/-- The result values of a response: none where ILLEGAL is set, because the zeros there are not data (R89, I7). -/
def Response.values (rsp : Response) : Option (List Slot) :=
  if rsp.illegal then none else some [rsp.result0, rsp.result1, rsp.result2, rsp.result3]

end Sys2Proof.Machine
end

