-- ==== Sys2Proof/Machine/Operands.lean ====
section
/-! DEFINITION. Result placement (R48): the response of a command that executed, by the form of its result. STATUS is 0 and every
bit no form names is 0. Operand assembly (R47) is part of decoding, in Decode.lean. -/

namespace Sys2Proof.Machine

/-- A response with one slot filled and STATUS 0. -/
def respondSlot (v : Slot) : Response := ⟨statusExecuted, v, 0, 0, 0⟩

/-- A 32-bit result, zero-extended and never sign-extended: PACK, SIGNFIX (R48). -/
def respondWord (w : Word) : Response := respondSlot (zext64 w)

/-- A byte result, zero-extended: QUANTIZE (R48). -/
def respondByte (k : Byte) : Response := respondSlot (zext64 k)

/-- One channel value: EXTRACTALPHA, DEQUANTIZE (R48). -/
def respondChannel (c : Channel) : Response := respondSlot c

/-- Four channel values in the order r, g, b, a: UNPACK (R48). -/
def respondChannels (r g b a : Channel) : Response := ⟨statusExecuted, r, g, b, a⟩

end Sys2Proof.Machine
end

