-- ==== Sys2Proof/Machine/Ops.lean ====
section
/-! DEFINITION. The transitions of the handshake (R22, R100, R106) as operations on a state, the IllegalCommand response (R88, R89),
and which move comes next. There are no registers and no memory to operate on (R19, R32). Taking the one exception is
`takeIllegalCommand`; there is no return from it, because nothing is saved (R92, R93). -/

namespace Sys2Proof.Machine

/-- `host issue(req)` (R22): the handshake holds the request, and the response before it is no longer there to read (R106). -/
def issueRequest (req : Request) (s : State) : State :=
  { s with hs := .busy req, response := none }

/-- `engine complete` (R22): the response is delivered for the request, whole and at once (R36), and the handshake is Idle. -/
def deliver (req : Request) (rsp : Response) (s : State) : State :=
  { s with hs := .idle, response := some rsp, observed := s.observed ++ [⟨req, rsp⟩] }

/-- `reset` (R22, R100): the handshake is Idle, and a request in flight is discarded with no response. -/
def resetEngine (s : State) : State :=
  { s with hs := .idle }

/-- The IllegalCommand response (R89). -/
def illegalResponse : Response := ⟨statusIllegal, 0, 0, 0, 0⟩

/-- Taking IllegalCommand (R88, R89): its response is delivered, the handshake returns to Idle as for any command, and the
launch state records the fault for good (R109; that the step goes on is a DESIGN CHOICE, log entry 3). Nothing is saved and control goes nowhere (R92). -/
def takeIllegalCommand (req : Request) (s : State) : State :=
  deliver req illegalResponse { s with faulted := true }

/-- The request a command answers: the one in flight, or, where none is, the command's own frame, issued and completed in one
atomic step, as R22 lets a model do (DESIGN CHOICE, log entry 5). -/
def acceptedRequest (i : Instr) (s : State) : Request :=
  match s.hs with
  | .busy req => req
  | .idle => encode i

/-- The request that the engine completes in the coming step, if it is the engine's turn. It is while Busy, unless the
schedule says that time passes or that the host asserts reset: the host's issue has no move while Busy (R105), and when
nothing is scheduled the engine completes (R104). -/
def completing (s : State) : Option Request :=
  match s.hs, s.schedule with
  | .idle, _ => none
  | .busy req, [] => some req
  | .busy req, .issue _ :: _ => some req
  | .busy req, .complete :: _ => some req
  | .busy _, .wait :: _ => none
  | .busy _, .reset :: _ => none

/-- The state with the completion's turn used up: an issue that could not move yet stays scheduled (R105). -/
def useTurn (s : State) : State :=
  match s.schedule with
  | .complete :: rest => { s with schedule := rest }
  | _ => s

/-- The coming move where it is not the engine's turn: the host's, the passing of time, or none. A step comes to an issue here
only while Idle, because while Busy the engine completes first (`completing`). A completion scheduled while Idle has no request
to complete and changes nothing (DESIGN CHOICE, log entry 11). -/
def otherMove (s : State) : State :=
  match s.schedule with
  | [] => s
  | .issue req :: rest => issueRequest req { s with schedule := rest }
  | .complete :: rest => { s with schedule := rest }
  | .wait :: rest => { s with schedule := rest }
  | .reset :: rest => resetEngine { s with schedule := rest }

/-- The frame placed in the handshake as an issued request, with the engine's turn next. The host's issue has no move while
Busy (R22, R105), so where a request is in flight placing a frame is a reset, which discards that request with no response
(R100), and then the issue; in Idle the reset has no effect (DESIGN CHOICE, log entry 7). -/
def placeRequest (req : Request) (s : State) : State :=
  issueRequest req { resetEngine s with schedule := .complete :: s.schedule }

end Sys2Proof.Machine
end

