-- ==== Sys2Proof/Machine/Quantization.lean ====
section
/-! DEFINITION. Quantize and Dequantize (R56 to R62) and the commands QUANTIZE and DEQUANTIZE (R66, R67). -/

namespace Sys2Proof.Machine

/-- NAN_BYTE (R7, R59; D5). -/
def nanByte : Byte := 0x00#8

/-- SCALE (R7): 255.0, the pattern R13 gives. -/
def scale : Channel := 0x406FE00000000000#64

/-- `Quantize` (R56): a NaN gives byte 0 (R59); any other value is clamped (R58), scaled by a binary64 product and rounded half
up (R60). -/
def quantize (x : Channel) : Byte :=
  if isNaN x then nanByte
  else BitVec.ofNat 8 (roundHalfUp (fmul64 (clamp01 x) scale))

/-- `Dequantize` (R62): the byte divided by 255.0, correctly rounded. -/
def dequantize (k : Byte) : Channel := fdiv64 (channelOfByte k) scale

/-- The response of QUANTIZE (R66). -/
def quantizeResponse (x : Channel) : Response := respondByte (quantize x)

/-- The response of DEQUANTIZE (R67). -/
def dequantizeResponse (k : Byte) : Response := respondChannel (dequantize k)

/-- QUANTIZE (R66). -/
def execQuantize (x : Channel) (s : State) : Host.Outcome State Fault Refusal :=
  .next (deliver (acceptedRequest (.quantize x) s) (quantizeResponse x) s)

/-- DEQUANTIZE (R67). -/
def execDequantize (k : Byte) (s : State) : Host.Outcome State Fault Refusal :=
  .next (deliver (acceptedRequest (.dequantize k) s) (dequantizeResponse k) s)

end Sys2Proof.Machine
end

