-- ==== Sys2Proof/Machine/SignFix.lean ====
section
/-! DEFINITION. SignFix (R82, R83) and the command SIGNFIX (R84). -/

namespace Sys2Proof.Machine

/-- `SignFix` (R82, and R83 outside [-128, 127]). -/
def signFix (v : Int) : Int := if v < 0 then v + 256 else v

/-- The response of SIGNFIX (R84): the operand read as a two's-complement integer, corrected, and its pattern zero-extended. -/
def signfixResponse (v : Word) : Response := respondWord (bits32 (signFix (sint32 v)))

/-- SIGNFIX (R84). -/
def execSignfix (v : Word) (s : State) : Host.Outcome State Fault Refusal :=
  .next (deliver (acceptedRequest (.signfix v) s) (signfixResponse v) s)

end Sys2Proof.Machine
end

