-- ==== Sys2Proof/Machine/Packing.lean ====
section
/-! DEFINITION. The packed word's lanes (R69, R71, R73), the commands PACK, UNPACK and EXTRACTALPHA (R71, R75, R79), and how a host
stores a packed word (R34). -/

namespace Sys2Proof.Machine

/-- LANE_OFFSET of alpha (R7, R69). -/
def alphaOffset : Nat := 24

/-- LANE_OFFSET of red (R7, R69). -/
def redOffset : Nat := 16

/-- LANE_OFFSET of green (R7, R69). -/
def greenOffset : Nat := 8

/-- PACK's combining step (R71): each byte shifted to its lane, combined by bitwise OR. -/
def packLanes (r g b a : Byte) : Word :=
  (zext32 a <<< alphaOffset) ||| (zext32 r <<< redOffset) ||| (zext32 g <<< greenOffset) ||| zext32 b

/-- The bytes of a packed word's lanes. -/
structure Lanes where
  r : Byte
  g : Byte
  b : Byte
  a : Byte
  deriving DecidableEq, Repr

/-- The lane at an offset below the top one (R73): arithmetic shift right, masked with 0xFF, bits 7:0. -/
def lowerLane (w : Word) (offset : Nat) : Byte := ((w.sshiftRight offset) &&& 0xFF#32).extractLsb' 0 8

/-- The top lane (R73): arithmetic shift right by 24, SignFix, masked with 0xFF, bits 7:0. -/
def topLane (w : Word) : Byte :=
  (bits32 (signFix (sint32 (w.sshiftRight alphaOffset))) &&& 0xFF#32).extractLsb' 0 8

/-- `ExtractLanes` (R73). -/
def extractLanes (w : Word) : Lanes where
  r := lowerLane w redOffset
  g := lowerLane w greenOffset
  b := (w &&& 0xFF#32).extractLsb' 0 8
  a := topLane w

/-- The word PACK computes (R71). -/
def packWord (r g b a : Channel) : Word := packLanes (quantize r) (quantize g) (quantize b) (quantize a)

/-- The response of PACK (R71). -/
def packResponse (r g b a : Channel) : Response := respondWord (packWord r g b a)

/-- The response of UNPACK (R75). -/
def unpackResponse (w : Word) : Response :=
  let lanes := extractLanes w
  respondChannels (dequantize lanes.r) (dequantize lanes.g) (dequantize lanes.b) (dequantize lanes.a)

/-- The alpha byte as EXTRACTALPHA computes it (R79): arithmetic shift right by 24, SignFix, bits 7:0. -/
def alphaByte (w : Word) : Byte :=
  (bits32 (signFix (sint32 (w.sshiftRight alphaOffset)))).extractLsb' 0 8

/-- The response of EXTRACTALPHA (R79). -/
def extractalphaResponse (w : Word) : Response := respondChannel (dequantize (alphaByte w))

/-- PACK (R71). -/
def execPack (r g b a : Channel) (s : State) : Host.Outcome State Fault Refusal :=
  .next (deliver (acceptedRequest (.pack r g b a) s) (packResponse r g b a) s)

/-- UNPACK (R75). -/
def execUnpack (w : Word) (s : State) : Host.Outcome State Fault Refusal :=
  .next (deliver (acceptedRequest (.unpack w) s) (unpackResponse w) s)

/-- EXTRACTALPHA (R79). -/
def execExtractalpha (w : Word) (s : State) : Host.Outcome State Fault Refusal :=
  .next (deliver (acceptedRequest (.extractalpha w) s) (extractalphaResponse w) s)

/-- The four bytes of a packed word as a host stores them, lowest address first (R34): big-endian begins with alpha,
little-endian with blue (the bytes between DEDUCED, log entry 10). The engine itself stores nothing (R32). -/
def hostBytes (order : ByteOrder) (w : Word) : List Byte :=
  let lanes := extractLanes w
  match order with
  | .bigEndian => [lanes.a, lanes.r, lanes.g, lanes.b]
  | .littleEndian => [lanes.b, lanes.g, lanes.r, lanes.a]

/-- A packed word in the memory of this model's host, whose byte order is open (R34). -/
def hostImage (w : Word) : List Byte := hostBytes Config.hostByteOrder w

end Sys2Proof.Machine
end

