-- ==== Sys2Proof/Machine/Dispatch.lean ====
section
/-! DEFINITION. Which meaning each command has, one arm per constructor of Instr. -/

namespace Sys2Proof.Machine

def exec (i : Instr) (s : State) : Host.Outcome State Fault Refusal :=
  match i with
  | .pack r g b a => Sys2Proof.Machine.execPack r g b a s
  | .unpack w => Sys2Proof.Machine.execUnpack w s
  | .extractalpha w => Sys2Proof.Machine.execExtractalpha w s
  | .signfix v => Sys2Proof.Machine.execSignfix v s
  | .quantize x => Sys2Proof.Machine.execQuantize x s
  | .dequantize k => Sys2Proof.Machine.execDequantize k s

end Sys2Proof.Machine
end

