-- ==== Sys2Proof/Machine/Execute.lean ====
section
/-! DEFINITION. `Execute : Request → Response` (R8, R15), the pure function of the request that the engine computes, and the
completion of a request in flight, which runs the decoded command or takes IllegalCommand. -/

namespace Sys2Proof.Machine

/-- The response of a decoded command. -/
def respond : Instr → Response
  | .pack r g b a => packResponse r g b a
  | .unpack w => unpackResponse w
  | .extractalpha w => extractalphaResponse w
  | .signfix v => signfixResponse v
  | .quantize x => quantizeResponse x
  | .dequantize k => dequantizeResponse k

/-- `Execute` (R8, R15). -/
def execute (req : Request) : Response :=
  match decodeFrame req with
  | .ok i => respond i
  | .error .illegalCommand => illegalResponse

/-- The completion of a request (R22, R46): the command word is decoded first, and the decoded command runs. -/
def completeRequest (req : Request) (s : State) : Host.Outcome State Fault Refusal :=
  match decodeFrame req with
  | .ok i => exec i s
  | .error .illegalCommand => .next (takeIllegalCommand req s)

end Sys2Proof.Machine
end

