-- ==== Sys2Proof/Machine/Step.lean ====
section
/-! DEFINITION. One step of the machine: the engine completes the request in flight if it is its turn, else the next move of the
schedule happens (R22, R104, R105, R106). No step stops: the engine never faults, hangs or refuses (R8). -/

namespace Sys2Proof.Machine

/-- One step. -/
def step (s : State) : Host.Outcome State Fault Refusal :=
  match completing s with
  | some req => completeRequest req (useTurn s)
  | none => .next (otherMove s)

/-- The state with a frame in flight whose low `nbits` bits are `w`, the rest zero, and the engine's turn next (log entry 7). -/
def State.withFetchWord (s : State) (nbits w : Nat) : State := placeRequest (frameOfTableWord nbits w) s

end Sys2Proof.Machine
end

