-- ==== Sys2Proof/Machine/Assembler.lean ====
section
/-! DEFINITION. The assembler of R52 to R55: a line of text is read as an assembled line, its literals are given their values (R53), and
the line becomes one request frame (R54). There are no pseudo-instructions (R55). Lexical details the spec does not give are
a DESIGN CHOICE, in log entry 9. -/

namespace Sys2Proof.Machine

/-- The binary64 value nearest ± `digits` × 10^`exp10`, ties to even (R53). -/
def decimalChannel (neg : Bool) (digits : Nat) (exp10 : Int) : Channel :=
  rne64 neg (digits * 10 ^ exp10.toNat * unitsPerOne) (10 ^ (-exp10).toNat)

/-- The pattern of a `<chan>` literal (R53). -/
def chanValue : ChanLit → Channel
  | .decimal neg digits exp10 => decimalChannel neg digits exp10
  | .f64 bits => bits
  | .nan => 0x7FF8000000000000#64
  | .inf => 0x7FF0000000000000#64
  | .negInf => 0xFFF0000000000000#64

/-- The 32-bit pattern of a `<word>` or `<int32>` literal (R53). -/
def wordValue : IntLit → Word
  | .decimal n => bits32 n
  | .hex _ v => BitVec.ofNat 32 v

/-- The byte of a `<byte>` literal (R53). -/
def byteValue : IntLit → Byte
  | .decimal n => BitVec.ofInt 8 n
  | .hex _ v => BitVec.ofNat 8 v

/-- The frame of a line whose literals are in range (R54): the encoded command, or the raw frame of the directive. -/
def lineFrame : AsmLine → Request
  | .pack r g b a => encode (.pack (chanValue r) (chanValue g) (chanValue b) (chanValue a))
  | .unpack w => encode (.unpack (wordValue w))
  | .extractalpha w => encode (.extractalpha (wordValue w))
  | .signfix v => encode (.signfix (wordValue v))
  | .quantize x => encode (.quantize (chanValue x))
  | .dequantize k => encode (.dequantize (byteValue k))
  | .frame c o0 o1 o2 o3 => ⟨BitVec.ofNat 32 c, BitVec.ofNat 64 o0, BitVec.ofNat 64 o1, BitVec.ofNat 64 o2, BitVec.ofNat 64 o3⟩

/-- Assembling a line: its frame, or a rejection where a literal is out of range (R53, R54). -/
def assembleLine (l : AsmLine) : Option Request := if l.wellFormed then some (lineFrame l) else none

/-- The value of a decimal digit. -/
def decDigit (c : Char) : Option Nat :=
  if '0'.toNat ≤ c.toNat ∧ c.toNat ≤ '9'.toNat then some (c.toNat - '0'.toNat) else none

/-- The value of a hexadecimal digit, in either case (DESIGN CHOICE, log entry 9). -/
def hexDigit (c : Char) : Option Nat :=
  match decDigit c with
  | some d => some d
  | none =>
    if 'A'.toNat ≤ c.toNat ∧ c.toNat ≤ 'F'.toNat then some (c.toNat - 'A'.toNat + 10)
    else if 'a'.toNat ≤ c.toNat ∧ c.toNat ≤ 'f'.toNat then some (c.toNat - 'a'.toNat + 10)
    else none

/-- A run of digits read in a base, most significant first; no digit at all is rejected. -/
def readDigits (digit : Char → Option Nat) (base : Nat) (cs : List Char) : Option Nat :=
  if cs.isEmpty then none
  else cs.foldl (fun acc c => (acc.bind fun n => (digit c).map fun d => n * base + d)) (some 0)

/-- A decimal integer with an optional minus sign. An explicit plus is rejected, and leading zeros are not (DESIGN CHOICE, log
entry 9). -/
def readInt : List Char → Option Int
  | '-' :: cs => (readDigits decDigit 10 cs).map fun n => -(n : Int)
  | cs => (readDigits decDigit 10 cs).map fun n => (n : Int)

/-- `0x`, with a small x only (DESIGN CHOICE, log entry 9), and hexadecimal digits: how many, and their value. -/
def readHex : List Char → Option (Nat × Nat)
  | '0' :: 'x' :: cs => (readDigits hexDigit 16 cs).map fun v => (cs.length, v)
  | _ => none

/-- A `<word>`, `<int32>` or `<byte>` literal (R53). -/
def readIntLit (cs : List Char) : Option IntLit :=
  match readHex cs with
  | some (d, v) => some (.hex d v)
  | none => (readInt cs).map .decimal

/-- What stands before the first character that satisfies `p`, and what stands after it if there is one. -/
def splitFirst (p : Char → Bool) : List Char → List Char × Option (List Char)
  | [] => ([], none)
  | c :: cs =>
    if p c then ([], some cs)
    else
      let (before, after) := splitFirst p cs
      (c :: before, after)

/-- The exponent of a decimal number, 0 where none is written. An explicit plus is accepted here (DESIGN CHOICE, log entry 9). -/
def readExponent : Option (List Char) → Option Int
  | none => some 0
  | some ('+' :: cs) => (readDigits decDigit 10 cs).map fun n => (n : Int)
  | some cs => readInt cs

/-- A decimal number without its sign, such as `0.45` or `1e-3` (R53). R53 shows the exponent with a small letter only; `e` and `E`
are taken alike, and a point needs digits on both sides (DESIGN CHOICE, log entry 9). -/
def readUnsigned (neg : Bool) (cs : List Char) : Option ChanLit :=
  let (mantissa, exponent) := splitFirst (fun c => c == 'e' || c == 'E') cs
  let (whole, fraction) := splitFirst (fun c => c == '.') mantissa
  (readExponent exponent).bind fun e =>
    match fraction with
    | none => (readDigits decDigit 10 whole).map fun n => .decimal neg n e
    | some f =>
      if whole.isEmpty || f.isEmpty then none
      else (readDigits decDigit 10 (whole ++ f)).map fun n => .decimal neg n (e - f.length)

/-- A `<chan>` literal (R53). The names `nan`, `inf`, `-inf` and the mark `f64:` are read in small letters only, and an explicit plus
before a number is rejected (DESIGN CHOICE, log entry 9). -/
def readChanLit : List Char → Option ChanLit
  | ['n', 'a', 'n'] => some .nan
  | ['i', 'n', 'f'] => some .inf
  | ['-', 'i', 'n', 'f'] => some .negInf
  | 'f' :: '6' :: '4' :: ':' :: cs =>
    match readHex cs with
    | some (16, v) => some (.f64 (BitVec.ofNat 64 v))
    | _ => none
  | '-' :: cs => readUnsigned true cs
  | cs => readUnsigned false cs

/-- A space or a tab (DESIGN CHOICE, log entry 9). -/
def isBlank (c : Char) : Bool := c == ' ' || c == '\t'

/-- A text without the blanks at its ends. -/
def trimBlanks (cs : List Char) : List Char :=
  ((cs.dropWhile isBlank).reverse.dropWhile isBlank).reverse

/-- The parts of a text between the characters that satisfy `p`. -/
def splitAll (p : Char → Bool) : List Char → List (List Char)
  | [] => [[]]
  | c :: cs =>
    if p c then [] :: splitAll p cs
    else
      match splitAll p cs with
      | [] => [[c]]
      | part :: parts => (c :: part) :: parts

/-- A hexadecimal number of the directive `.frame`, of any number of digits, with or without `0x` (DESIGN CHOICE, log entries 9 and
14). -/
def readFrameNumber (cs : List Char) : Option Nat :=
  match cs with
  | '0' :: 'x' :: ds => readDigits hexDigit 16 ds
  | ds => readDigits hexDigit 16 ds

/-- The line of a mnemonic, in lower case, and the operand texts after it (R52). -/
def readCommand (mnemonic : List Char) (operands : List (List Char)) : Option AsmLine :=
  match mnemonic, operands with
  | ['p', 'a', 'c', 'k'], [r, g, b, a] =>
    match readChanLit r, readChanLit g, readChanLit b, readChanLit a with
    | some r, some g, some b, some a => some (.pack r g b a)
    | _, _, _, _ => none
  | ['u', 'n', 'p', 'a', 'c', 'k'], [w] => (readIntLit w).map .unpack
  | ['e', 'x', 't', 'r', 'a', 'c', 't', 'a', 'l', 'p', 'h', 'a'], [w] => (readIntLit w).map .extractalpha
  | ['s', 'i', 'g', 'n', 'f', 'i', 'x'], [v] => (readIntLit v).map .signfix
  | ['q', 'u', 'a', 'n', 't', 'i', 'z', 'e'], [x] => (readChanLit x).map .quantize
  | ['d', 'e', 'q', 'u', 'a', 'n', 't', 'i', 'z', 'e'], [k] => (readIntLit k).map .dequantize
  | _, _ => none

/-- The directive `.frame` and its five numbers (R54). -/
def readFrame (numbers : List (List Char)) : Option AsmLine :=
  match numbers.map readFrameNumber with
  | [some c, some o0, some o1, some o2, some o3] => some (.frame c o0 o1 o2 o3)
  | _ => none

/-- A line without its comment and without blanks at its ends (R52). -/
def stripComment (cs : List Char) : List Char := trimBlanks (splitFirst (fun c => c == ';') cs).1

/-- One line of text, already stripped, as an assembled line (R52, R54). -/
def readLine (cs : List Char) : Option AsmLine :=
  let (mnemonic, rest) := splitFirst isBlank cs
  let operands := rest.getD []
  let name := mnemonic.map Char.toLower
  if name = ['.', 'f', 'r', 'a', 'm', 'e'] then
    readFrame ((splitAll isBlank operands).filter fun part => !part.isEmpty)
  else readCommand name ((splitAll (fun c => c == ',') operands).map trimBlanks)

/-- Assembling one stripped line of text into its frame, or rejecting it (R52 to R54). -/
def assembleText (cs : List Char) : Option Request := (readLine cs).bind assembleLine

/-- Assembling a program, one command a line (R52). A line that holds nothing but a comment gives no frame (DESIGN CHOICE, log entry
9). A program with a rejected line is rejected whole: R53 says only that the literal is rejected (DESIGN CHOICE, log entry 15). -/
def assembleProgram : List (List Char) → Option (List Request)
  | [] => some []
  | l :: ls =>
    let text := stripComment l
    if text.isEmpty then assembleProgram ls
    else
      match assembleText text, assembleProgram ls with
      | some req, some reqs => some (req :: reqs)
      | _, _ => none

end Sys2Proof.Machine
end

