-- ==== Sys2Proof/Machine/Instances.lean ====
section
/-! DEFINITION. Any number of engine instances side by side, each with its own handshake and host, sharing nothing (R7
ENGINE_INSTANCES, R31, R98; DESIGN CHOICE, log entry 8). -/

namespace Sys2Proof.Machine

/-- The instances of a system, by position. The engine itself has no instance identifier (R98). -/
structure EngineArray where
  engines : List State
  deriving DecidableEq, Repr

/-- There is at least one instance (R7). -/
def EngineArray.wf (a : EngineArray) : Bool := !a.engines.isEmpty

/-- `n + 1` instances right after reset. -/
def EngineArray.reset (n : Nat) : EngineArray := ⟨List.replicate (n + 1) State.reset⟩

/-- One step of the instance at position `k`, the others standing still; no step where there is no such instance. -/
def stepInstance (k : Nat) (a : EngineArray) : Host.Outcome EngineArray Fault Refusal :=
  match a.engines[k]? with
  | none => .next a
  | some s =>
    match step s with
    | .next t => .next ⟨a.engines.set k t⟩
    | .fault f => .fault f
    | .refused r => .refused r

/-- Steps of instances in a given interleaving (R39). -/
def runInstances : List Nat → EngineArray → Host.Outcome EngineArray Fault Refusal
  | [], a => .next a
  | k :: ks, a =>
    match stepInstance k a with
    | .next a' => runInstances ks a'
    | .fault f => .fault f
    | .refused r => .refused r

end Sys2Proof.Machine
end

