-- ==== Sys2Proof/Machine/Thresholds.lean ====
section
/-! DEFINITION. Quantize by thresholds (R64): the table of T_1 to T_255 of 95_test_vectors.md section 2.2, and the count that R64 says
gives the same byte as the arithmetic of R56. No command uses it; the statements compare the two. -/

namespace Sys2Proof.Machine

/-- Thresholds T_k, part 0. -/
def thresholdRows0 : List Channel :=
  [0x3F60101010101010#64, 0x3F78181818181818#64, 0x3F84141414141414#64, 0x3F8C1C1C1C1C1C1C#64,
   0x3F92121212121212#64, 0x3F96161616161616#64, 0x3F9A1A1A1A1A1A1A#64, 0x3F9E1E1E1E1E1E1E#64,
   0x3FA1111111111111#64, 0x3FA3131313131313#64, 0x3FA5151515151515#64, 0x3FA7171717171717#64,
   0x3FA9191919191919#64, 0x3FAB1B1B1B1B1B1B#64, 0x3FAD1D1D1D1D1D1D#64, 0x3FAF1F1F1F1F1F1F#64,
   0x3FB0909090909091#64, 0x3FB1919191919192#64, 0x3FB2929292929293#64, 0x3FB3939393939394#64,
   0x3FB4949494949495#64, 0x3FB5959595959596#64, 0x3FB6969696969697#64, 0x3FB7979797979798#64,
   0x3FB8989898989899#64, 0x3FB999999999999A#64, 0x3FBA9A9A9A9A9A9B#64, 0x3FBB9B9B9B9B9B9C#64,
   0x3FBC9C9C9C9C9C9D#64, 0x3FBD9D9D9D9D9D9E#64, 0x3FBE9E9E9E9E9E9F#64, 0x3FBF9F9F9F9F9FA0#64]

/-- Thresholds T_k, part 1. -/
def thresholdRows1 : List Channel :=
  [0x3FC0505050505050#64, 0x3FC0D0D0D0D0D0D1#64, 0x3FC1515151515151#64, 0x3FC1D1D1D1D1D1D2#64,
   0x3FC2525252525252#64, 0x3FC2D2D2D2D2D2D3#64, 0x3FC3535353535353#64, 0x3FC3D3D3D3D3D3D4#64,
   0x3FC4545454545454#64, 0x3FC4D4D4D4D4D4D5#64, 0x3FC5555555555555#64, 0x3FC5D5D5D5D5D5D6#64,
   0x3FC6565656565656#64, 0x3FC6D6D6D6D6D6D7#64, 0x3FC7575757575757#64, 0x3FC7D7D7D7D7D7D8#64,
   0x3FC8585858585858#64, 0x3FC8D8D8D8D8D8D9#64, 0x3FC9595959595959#64, 0x3FC9D9D9D9D9D9DA#64,
   0x3FCA5A5A5A5A5A5A#64, 0x3FCADADADADADADB#64, 0x3FCB5B5B5B5B5B5B#64, 0x3FCBDBDBDBDBDBDC#64,
   0x3FCC5C5C5C5C5C5C#64, 0x3FCCDCDCDCDCDCDD#64, 0x3FCD5D5D5D5D5D5D#64, 0x3FCDDDDDDDDDDDDE#64,
   0x3FCE5E5E5E5E5E5E#64, 0x3FCEDEDEDEDEDEDF#64, 0x3FCF5F5F5F5F5F5F#64, 0x3FCFDFDFDFDFDFE0#64]

/-- Thresholds T_k, part 2. -/
def thresholdRows2 : List Channel :=
  [0x3FD0303030303030#64, 0x3FD0707070707070#64, 0x3FD0B0B0B0B0B0B1#64, 0x3FD0F0F0F0F0F0F1#64,
   0x3FD1313131313131#64, 0x3FD1717171717171#64, 0x3FD1B1B1B1B1B1B2#64, 0x3FD1F1F1F1F1F1F2#64,
   0x3FD2323232323232#64, 0x3FD2727272727272#64, 0x3FD2B2B2B2B2B2B3#64, 0x3FD2F2F2F2F2F2F3#64,
   0x3FD3333333333333#64, 0x3FD3737373737373#64, 0x3FD3B3B3B3B3B3B4#64, 0x3FD3F3F3F3F3F3F4#64,
   0x3FD4343434343434#64, 0x3FD4747474747474#64, 0x3FD4B4B4B4B4B4B5#64, 0x3FD4F4F4F4F4F4F5#64,
   0x3FD5353535353535#64, 0x3FD5757575757575#64, 0x3FD5B5B5B5B5B5B6#64, 0x3FD5F5F5F5F5F5F6#64,
   0x3FD6363636363636#64, 0x3FD6767676767676#64, 0x3FD6B6B6B6B6B6B7#64, 0x3FD6F6F6F6F6F6F7#64,
   0x3FD7373737373737#64, 0x3FD7777777777777#64, 0x3FD7B7B7B7B7B7B8#64, 0x3FD7F7F7F7F7F7F8#64]

/-- Thresholds T_k, part 3. -/
def thresholdRows3 : List Channel :=
  [0x3FD8383838383838#64, 0x3FD8787878787878#64, 0x3FD8B8B8B8B8B8B9#64, 0x3FD8F8F8F8F8F8F9#64,
   0x3FD9393939393939#64, 0x3FD9797979797979#64, 0x3FD9B9B9B9B9B9BA#64, 0x3FD9F9F9F9F9F9FA#64,
   0x3FDA3A3A3A3A3A3A#64, 0x3FDA7A7A7A7A7A7A#64, 0x3FDABABABABABABB#64, 0x3FDAFAFAFAFAFAFB#64,
   0x3FDB3B3B3B3B3B3B#64, 0x3FDB7B7B7B7B7B7B#64, 0x3FDBBBBBBBBBBBBC#64, 0x3FDBFBFBFBFBFBFC#64,
   0x3FDC3C3C3C3C3C3C#64, 0x3FDC7C7C7C7C7C7C#64, 0x3FDCBCBCBCBCBCBD#64, 0x3FDCFCFCFCFCFCFD#64,
   0x3FDD3D3D3D3D3D3D#64, 0x3FDD7D7D7D7D7D7D#64, 0x3FDDBDBDBDBDBDBE#64, 0x3FDDFDFDFDFDFDFE#64,
   0x3FDE3E3E3E3E3E3E#64, 0x3FDE7E7E7E7E7E7E#64, 0x3FDEBEBEBEBEBEBF#64, 0x3FDEFEFEFEFEFEFF#64,
   0x3FDF3F3F3F3F3F3F#64, 0x3FDF7F7F7F7F7F7F#64, 0x3FDFBFBFBFBFBFC0#64, 0x3FE0000000000000#64]

/-- Thresholds T_k, part 4. -/
def thresholdRows4 : List Channel :=
  [0x3FE0202020202020#64, 0x3FE0404040404040#64, 0x3FE0606060606060#64, 0x3FE0808080808080#64,
   0x3FE0A0A0A0A0A0A1#64, 0x3FE0C0C0C0C0C0C1#64, 0x3FE0E0E0E0E0E0E1#64, 0x3FE1010101010101#64,
   0x3FE1212121212121#64, 0x3FE1414141414141#64, 0x3FE1616161616161#64, 0x3FE1818181818182#64,
   0x3FE1A1A1A1A1A1A2#64, 0x3FE1C1C1C1C1C1C2#64, 0x3FE1E1E1E1E1E1E2#64, 0x3FE2020202020202#64,
   0x3FE2222222222222#64, 0x3FE2424242424242#64, 0x3FE2626262626262#64, 0x3FE2828282828283#64,
   0x3FE2A2A2A2A2A2A3#64, 0x3FE2C2C2C2C2C2C3#64, 0x3FE2E2E2E2E2E2E3#64, 0x3FE3030303030303#64,
   0x3FE3232323232323#64, 0x3FE3434343434343#64, 0x3FE3636363636363#64, 0x3FE3838383838384#64,
   0x3FE3A3A3A3A3A3A4#64, 0x3FE3C3C3C3C3C3C4#64, 0x3FE3E3E3E3E3E3E4#64, 0x3FE4040404040404#64]

/-- Thresholds T_k, part 5. -/
def thresholdRows5 : List Channel :=
  [0x3FE4242424242424#64, 0x3FE4444444444444#64, 0x3FE4646464646464#64, 0x3FE4848484848485#64,
   0x3FE4A4A4A4A4A4A5#64, 0x3FE4C4C4C4C4C4C5#64, 0x3FE4E4E4E4E4E4E5#64, 0x3FE5050505050505#64,
   0x3FE5252525252525#64, 0x3FE5454545454545#64, 0x3FE5656565656565#64, 0x3FE5858585858586#64,
   0x3FE5A5A5A5A5A5A6#64, 0x3FE5C5C5C5C5C5C6#64, 0x3FE5E5E5E5E5E5E6#64, 0x3FE6060606060606#64,
   0x3FE6262626262626#64, 0x3FE6464646464646#64, 0x3FE6666666666666#64, 0x3FE6868686868687#64,
   0x3FE6A6A6A6A6A6A7#64, 0x3FE6C6C6C6C6C6C7#64, 0x3FE6E6E6E6E6E6E7#64, 0x3FE7070707070707#64,
   0x3FE7272727272727#64, 0x3FE7474747474747#64, 0x3FE7676767676767#64, 0x3FE7878787878788#64,
   0x3FE7A7A7A7A7A7A8#64, 0x3FE7C7C7C7C7C7C8#64, 0x3FE7E7E7E7E7E7E8#64, 0x3FE8080808080808#64]

/-- Thresholds T_k, part 6. -/
def thresholdRows6 : List Channel :=
  [0x3FE8282828282828#64, 0x3FE8484848484848#64, 0x3FE8686868686868#64, 0x3FE8888888888889#64,
   0x3FE8A8A8A8A8A8A9#64, 0x3FE8C8C8C8C8C8C9#64, 0x3FE8E8E8E8E8E8E9#64, 0x3FE9090909090909#64,
   0x3FE9292929292929#64, 0x3FE9494949494949#64, 0x3FE9696969696969#64, 0x3FE989898989898A#64,
   0x3FE9A9A9A9A9A9AA#64, 0x3FE9C9C9C9C9C9CA#64, 0x3FE9E9E9E9E9E9EA#64, 0x3FEA0A0A0A0A0A0A#64,
   0x3FEA2A2A2A2A2A2A#64, 0x3FEA4A4A4A4A4A4A#64, 0x3FEA6A6A6A6A6A6A#64, 0x3FEA8A8A8A8A8A8B#64,
   0x3FEAAAAAAAAAAAAB#64, 0x3FEACACACACACACB#64, 0x3FEAEAEAEAEAEAEB#64, 0x3FEB0B0B0B0B0B0B#64,
   0x3FEB2B2B2B2B2B2B#64, 0x3FEB4B4B4B4B4B4B#64, 0x3FEB6B6B6B6B6B6B#64, 0x3FEB8B8B8B8B8B8C#64,
   0x3FEBABABABABABAC#64, 0x3FEBCBCBCBCBCBCC#64, 0x3FEBEBEBEBEBEBEC#64, 0x3FEC0C0C0C0C0C0C#64]

/-- Thresholds T_k, part 7. -/
def thresholdRows7 : List Channel :=
  [0x3FEC2C2C2C2C2C2C#64, 0x3FEC4C4C4C4C4C4C#64, 0x3FEC6C6C6C6C6C6C#64, 0x3FEC8C8C8C8C8C8D#64,
   0x3FECACACACACACAD#64, 0x3FECCCCCCCCCCCCD#64, 0x3FECECECECECECED#64, 0x3FED0D0D0D0D0D0D#64,
   0x3FED2D2D2D2D2D2D#64, 0x3FED4D4D4D4D4D4D#64, 0x3FED6D6D6D6D6D6D#64, 0x3FED8D8D8D8D8D8E#64,
   0x3FEDADADADADADAE#64, 0x3FEDCDCDCDCDCDCE#64, 0x3FEDEDEDEDEDEDEE#64, 0x3FEE0E0E0E0E0E0E#64,
   0x3FEE2E2E2E2E2E2E#64, 0x3FEE4E4E4E4E4E4E#64, 0x3FEE6E6E6E6E6E6E#64, 0x3FEE8E8E8E8E8E8F#64,
   0x3FEEAEAEAEAEAEAF#64, 0x3FEECECECECECECF#64, 0x3FEEEEEEEEEEEEEF#64, 0x3FEF0F0F0F0F0F0F#64,
   0x3FEF2F2F2F2F2F2F#64, 0x3FEF4F4F4F4F4F4F#64, 0x3FEF6F6F6F6F6F6F#64, 0x3FEF8F8F8F8F8F90#64,
   0x3FEFAFAFAFAFAFB0#64, 0x3FEFCFCFCFCFCFD0#64, 0x3FEFEFEFEFEFEFF0#64]

/-- T_1 to T_255, in order (R64; 95_test_vectors.md section 2.2). -/
def thresholds : List Channel :=
  thresholdRows0 ++ thresholdRows1 ++ thresholdRows2 ++ thresholdRows3 ++ thresholdRows4 ++ thresholdRows5 ++ thresholdRows6 ++ thresholdRows7

/-- Quantize of a non-NaN value as R64 describes it: 0 at or below zero, 255 from 1.0 up, and between them the number of
thresholds at or below the value, compared as unsigned patterns. -/
def quantizeByThresholds (x : Channel) : Nat :=
  if atMostZero x then 0
  else if atLeastOne x then 255
  else thresholds.countP fun t => decide (t.toNat ≤ x.toNat)

end Sys2Proof.Machine
end

