-- ==== Sys2Proof/Machine/Launch.lean ====
section
/-! DEFINITION. The step whose fault outcome is the ILLEGAL response, as R8 and R89 advise a model to treat it (log entry 3). `step`
itself delivers that response and goes on, as the engine does. -/

namespace Sys2Proof.Machine

/-- The coming step answers IllegalCommand: the engine completes a request that decodes to no command (R46, R88). -/
def raisesIllegalCommand (s : State) : Bool :=
  match completing s with
  | none => false
  | some req =>
    match decodeFrame req with
    | .ok _ => false
    | .error .illegalCommand => true

/-- A step that stops with a fault where the engine answers IllegalCommand (R8, R89). -/
def strictStep (s : State) : Host.Outcome State Fault Refusal :=
  if raisesIllegalCommand s then .fault .illegalCommand else step s

end Sys2Proof.Machine
end

