-- ==== Sys2Proof/Safety.lean ====
section
/-! DEFINITION. What a safe run is, when a run has ended, the invariant that every step keeps, and the spec's own notions on real
numbers and operand bits, in the terms the statements use. -/

namespace Sys2Proof.Machine

/-- A run in which no command word was illegal so far (R88, R109). -/
def State.Safe (s : State) : Prop := s.faulted = false

/-- The move is the host issuing a request. -/
def Move.isIssue : Move → Bool
  | .issue _ => true
  | .complete => false
  | .wait => false
  | .reset => false

/-- The run has ended (R108): the host has issued its last request, and the handshake is Idle, so that every accepted request
that no reset discarded has its response. Waits, completions and resets may still be scheduled: R108 does not ask about them. -/
def State.finished (s : State) : Bool := s.hs == .idle && !s.schedule.any Move.isIssue

/-- `k` steps, ending early at a fault or a refusal. -/
def runSteps : Nat → State → Host.Outcome State Fault Refusal
  | 0, s => .next s
  | k + 1, s =>
    match step s with
    | .next t => runSteps k t
    | .fault f => .fault f
    | .refused r => .refused r

/-- The invariant of a machine that may have run: each delivered response is the one its request determines (R18); a
response that can still be read is the last one delivered, and no request is in flight while it can (R22, R106); and the
launch state records a fault exactly when some response was ILLEGAL (R109). -/
structure State.Inv (s : State) : Prop where
  observed_execute : ∀ t ∈ s.observed, t.response = execute t.request
  response_last : ∀ rsp, s.response = some rsp →
    s.hs = .idle ∧ ∃ t, s.observed.getLast? = some t ∧ t.response = rsp
  faulted_iff : s.faulted = true ↔ ∃ t ∈ s.observed, t.response.illegal = true

/-- A channel value in [0, 1] (R16). -/
def InUnitInterval (x : Channel) : Prop := isFinite x = true ∧ 0 ≤ real x ∧ real x ≤ 1

/-- Numeric order of two values neither of which is a NaN, infinities included (R12). -/
def NumLe (x y : Channel) : Prop :=
  (isInf x = true ∧ signBit x = true) ∨ (isInf y = true ∧ signBit y = false) ∨
    (isFinite x = true ∧ isFinite y = true ∧ real x ≤ real y)

/-- The greatest finite binary64 value. -/
def maxFinite : Channel := 0x7FEFFFFFFFFFFFFF#64

/-- `y` is the finite binary64 value nearest `t`, the one with an even fraction where two are equally near: what R13 asks of
`rne64(t)`. -/
def IsNearestEven (t : ℚ) (y : Channel) : Prop :=
  isFinite y = true ∧ ∀ z, isFinite z = true →
    |real y - t| ≤ |real z - t| ∧ (|real z - t| = |real y - t| → real z ≠ real y → y.getLsbD 0 = false)

/-- Two frames have the same command word and agree in the operand bits R47 names for it. -/
def AgreeOnNamedBits (p q : Request) : Prop :=
  p.cmd = q.cmd ∧
  (p.cmd = 0#32 → p.operand0 = q.operand0 ∧ p.operand1 = q.operand1 ∧ p.operand2 = q.operand2 ∧ p.operand3 = q.operand3) ∧
  (p.cmd = 1#32 ∨ p.cmd = 2#32 ∨ p.cmd = 3#32 → p.operand0.extractLsb' 0 32 = q.operand0.extractLsb' 0 32) ∧
  (p.cmd = 4#32 → p.operand0 = q.operand0) ∧
  (p.cmd = 5#32 → p.operand0.extractLsb' 0 8 = q.operand0.extractLsb' 0 8)

/-- A command word that R50 calls illegal: a bit of CMD[31:3] is set, or CMD[2:0] is 6 or 7. -/
def IllegalWord (cmd : Word) : Prop :=
  cmd.extractLsb' 3 29 ≠ 0 ∨ cmd.extractLsb' 0 3 = 6#3 ∨ cmd.extractLsb' 0 3 = 7#3

end Sys2Proof.Machine
end

