-- ==== Sys2Proof/Certificates/Slice0/Obligations.lean ====
section
/-! DEFINITION. The statements for the provers, one definition each, in the order of OBLIGATIONS.json. Each docstring names the rule a
statement formalises, or the spec's section and sentence where it is an inference of the spec's or rests on a choice of the model's. -/

open Sys2Proof Sys2Proof.Machine

/-- O1. 30_encoding.md sections 1 and 2: "Each command reads the operand bits below and no others": decoding reads the command word and the named operand bits, and nothing else; so decode undoes encode. -/
def Obligations.DecodeTakesExactlyTheEncodedFrames : Prop :=
  ∀ (req : Request) (i : Instr), decodeFrame req = .ok i ↔ AgreeOnNamedBits (encode i) req

/-- O2. R46: decoding is total over command words and does not look at operands. -/
def Obligations.DecodingIsTotal : Prop :=
  (∀ req : Request, IllegalWord req.cmd → decodeFrame req = .error .illegalCommand) ∧
  (∀ req : Request, ¬ IllegalWord req.cmd →
    req.cmd.toNat ≤ 5 ∧ ∃ i, decodeFrame req = .ok i ∧ i.op = req.cmd.extractLsb' 0 3 ∧ commandWord i = req.cmd) ∧
  (∀ p q : Request, p.cmd = q.cmd →
    (decodeFrame p = .error .illegalCommand ↔ decodeFrame q = .error .illegalCommand) ∧
    ∀ i j, decodeFrame p = .ok i → decodeFrame q = .ok j → i.op = j.op)

/-- O3. R45: the opcode map, word by word. -/
def Obligations.OpcodeMapWordsDecode : Prop :=
  ∀ o0 o1 o2 o3 : Slot,
    decodeFrame ⟨0b00000000000000000000000000000000#32, o0, o1, o2, o3⟩ = .ok (.pack o0 o1 o2 o3) ∧
    decodeFrame ⟨0b00000000000000000000000000000001#32, o0, o1, o2, o3⟩ = .ok (.unpack (o0.extractLsb' 0 32)) ∧
    decodeFrame ⟨0b00000000000000000000000000000010#32, o0, o1, o2, o3⟩ = .ok (.extractalpha (o0.extractLsb' 0 32)) ∧
    decodeFrame ⟨0b00000000000000000000000000000011#32, o0, o1, o2, o3⟩ = .ok (.signfix (o0.extractLsb' 0 32)) ∧
    decodeFrame ⟨0b00000000000000000000000000000100#32, o0, o1, o2, o3⟩ = .ok (.quantize o0) ∧
    decodeFrame ⟨0b00000000000000000000000000000101#32, o0, o1, o2, o3⟩ = .ok (.dequantize (o0.extractLsb' 0 8)) ∧
    decodeFrame ⟨0b00000000000000000000000000000110#32, o0, o1, o2, o3⟩ = .error .illegalCommand ∧
    decodeFrame ⟨0b00000000000000000000000000000111#32, o0, o1, o2, o3⟩ = .error .illegalCommand

/-- O4. R49: ignored operand bits are ignored. -/
def Obligations.IgnoredOperandBitsHaveNoEffect : Prop :=
  ∀ p q : Request, AgreeOnNamedBits p q →
    execute p = execute q ∧ (¬ IllegalWord p.cmd → (execute p).status = 0 ∧ (execute q).status = 0)

/-- O5. R71: PACK, its response, its frame and its completion. -/
def Obligations.PackDeliversTheFourQuantizedLanes : Prop :=
  (∀ (r g b a : Channel) (s : State) (req : Request),
    let w : Word := quantize a ++ quantize r ++ quantize g ++ quantize b
    s.hs = .busy req → exec (.pack r g b a) s = .next { s with
        hs := .idle
        response := some ⟨0, 0#32 ++ w, 0, 0, 0⟩
        observed := s.observed ++ [⟨req, ⟨0, 0#32 ++ w, 0, 0, 0⟩⟩] }) ∧
  (∀ r g b a : Channel,
    execute ⟨0x00000000#32, r, g, b, a⟩ =
      ⟨0, 0#32 ++ (quantize a ++ quantize r ++ quantize g ++ quantize b : Word), 0, 0, 0⟩) ∧
  (∀ r g b a : Channel,
    sint32 (quantize a ++ quantize r ++ quantize g ++ quantize b : Word) < 0 ↔ 128 ≤ (quantize a).toNat) ∧
  execute ⟨0, one64, one64, one64, one64⟩ = ⟨0, 0x00000000FFFFFFFF#64, 0, 0, 0⟩ ∧
  execute ⟨0, posZero, posZero, posZero, posZero⟩ = ⟨0, 0, 0, 0, 0⟩ ∧
  execute ⟨0, 0x3FB999999999999A#64, 0x3FE0000000000000#64, 0x3FF0000000000000#64, 0x3FDCCCCCCCCCCCCD#64⟩ =
    ⟨0, 0x00000000731A80FF#64, 0, 0, 0⟩ ∧
  sint32 0x731A80FF#32 = 1931116799

/-- O6. R75: UNPACK, its response, its frame and its completion. -/
def Obligations.UnpackDeliversTheFourDequantizedLanes : Prop :=
  (∀ (w : Word) (s : State) (req : Request),
    let rsp : Response := ⟨0, dequantize (w.extractLsb' 16 8), dequantize (w.extractLsb' 8 8),
      dequantize (w.extractLsb' 0 8), dequantize (w.extractLsb' 24 8)⟩
    s.hs = .busy req → exec (.unpack w) s = .next { s with
        hs := .idle
        response := some rsp
        observed := s.observed ++ [⟨req, rsp⟩] }) ∧
  (∀ o0 o1 o2 o3 : Slot,
    execute ⟨0x00000001#32, o0, o1, o2, o3⟩ = ⟨0, dequantize (o0.extractLsb' 16 8), dequantize (o0.extractLsb' 8 8),
      dequantize (o0.extractLsb' 0 8), dequantize (o0.extractLsb' 24 8)⟩) ∧
  execute ⟨1, 0x80000000#64, 0, 0, 0⟩ = ⟨0, posZero, posZero, posZero, 0x3FE0101010101010#64⟩ ∧
  execute ⟨1, 0xFFFFFFFF#64, 0, 0, 0⟩ = ⟨0, one64, one64, one64, one64⟩ ∧
  execute ⟨1, 0x00000000#64, 0, 0, 0⟩ = ⟨0, posZero, posZero, posZero, posZero⟩ ∧
  execute ⟨1, 0x7FFFFFFF#64, 0, 0, 0⟩ = ⟨0, one64, one64, one64, dequantize 127#8⟩ ∧
  execute ⟨1, 0x731A80FF#64, 0, 0, 0⟩ =
    ⟨0, 0x3FBA1A1A1A1A1A1A#64, 0x3FE0101010101010#64, 0x3FF0000000000000#64, 0x3FDCDCDCDCDCDCDD#64⟩

/-- O7. R79: EXTRACTALPHA, its response, its frame and its completion. -/
def Obligations.ExtractalphaDeliversTheDequantizedTopByte : Prop :=
  (∀ (w : Word) (s : State) (req : Request),
    let rsp : Response := ⟨0, dequantize (w.extractLsb' 24 8), 0, 0, 0⟩
    s.hs = .busy req → exec (.extractalpha w) s = .next { s with
        hs := .idle
        response := some rsp
        observed := s.observed ++ [⟨req, rsp⟩] }) ∧
  (∀ o0 o1 o2 o3 : Slot,
    execute ⟨0x00000002#32, o0, o1, o2, o3⟩ = ⟨0, dequantize (o0.extractLsb' 24 8), 0, 0, 0⟩) ∧
  execute ⟨2, 0x01000000#64, 0, 0, 0⟩ = ⟨0, dequantize 1#8, 0, 0, 0⟩ ∧
  execute ⟨2, 0x7F000000#64, 0, 0, 0⟩ = ⟨0, dequantize 127#8, 0, 0, 0⟩ ∧
  execute ⟨2, 0x80000000#64, 0, 0, 0⟩ = ⟨0, dequantize 128#8, 0, 0, 0⟩ ∧
  execute ⟨2, 0xFF000000#64, 0, 0, 0⟩ = ⟨0, one64, 0, 0, 0⟩ ∧
  sint32 0x8C1A80FF#32 = -1944420097 ∧ sint32 (BitVec.sshiftRight 0x8C1A80FF#32 24) = -116 ∧
  execute ⟨2, 0x8C1A80FF#64, 0, 0, 0⟩ = ⟨0, 0x3FE1919191919192#64, 0, 0, 0⟩

/-- O8. R84: SIGNFIX, its response, its frame and its completion. -/
def Obligations.SignfixDeliversTheCorrectedInteger : Prop :=
  (∀ (v : Word) (s : State) (req : Request),
    let u : Int := if v.toInt < 0 then v.toInt + 256 else v.toInt
    let rsp : Response := ⟨0, 0#32 ++ bits32 u, 0, 0, 0⟩
    s.hs = .busy req → exec (.signfix v) s = .next { s with
        hs := .idle
        response := some rsp
        observed := s.observed ++ [⟨req, rsp⟩] }) ∧
  (∀ o0 o1 o2 o3 : Slot,
    let v : Int := sint32 (o0.extractLsb' 0 32)
    execute ⟨0x00000003#32, o0, o1, o2, o3⟩ = ⟨0, 0#32 ++ bits32 (if v < 0 then v + 256 else v), 0, 0, 0⟩) ∧
  execute ⟨3, 0xFFFFFF80#64, 0, 0, 0⟩ = ⟨0, 0x80#64, 0, 0, 0⟩ ∧
  execute ⟨3, 0xFFFFFFFF#64, 0, 0, 0⟩ = ⟨0, 0xFF#64, 0, 0, 0⟩ ∧
  execute ⟨3, 0x00000000#64, 0, 0, 0⟩ = ⟨0, 0x00#64, 0, 0, 0⟩ ∧
  execute ⟨3, 0x0000007F#64, 0, 0, 0⟩ = ⟨0, 0x7F#64, 0, 0, 0⟩ ∧
  execute ⟨3, 0x00000080#64, 0, 0, 0⟩ = ⟨0, 0x80#64, 0, 0, 0⟩ ∧
  execute ⟨3, 0xFFFFFF7F#64, 0, 0, 0⟩ = ⟨0, 0x7F#64, 0, 0, 0⟩ ∧
  execute ⟨3, 0x80000000#64, 0, 0, 0⟩ = ⟨0, 0x80000100#64, 0, 0, 0⟩ ∧ sint32 0x80000100#32 = -2147483392 ∧
  execute ⟨3, 0x7FFFFFFF#64, 0, 0, 0⟩ = ⟨0, 0x7FFFFFFF#64, 0, 0, 0⟩ ∧
  execute ⟨3, 0xFFFFFF8C#64, 0, 0, 0⟩ = ⟨0, 0x8C#64, 0, 0, 0⟩

/-- O9. R66: QUANTIZE, its response, its frame, its corner cases and its completion. -/
def Obligations.QuantizeDeliversTheByte : Prop :=
  (∀ (x : Channel) (s : State) (req : Request),
    let rsp : Response := ⟨0, 0#56 ++ quantize x, 0, 0, 0⟩
    s.hs = .busy req → exec (.quantize x) s = .next { s with
        hs := .idle
        response := some rsp
        observed := s.observed ++ [⟨req, rsp⟩] }) ∧
  (∀ o0 o1 o2 o3 : Slot, execute ⟨0x00000004#32, o0, o1, o2, o3⟩ = ⟨0, 0#56 ++ quantize o0, 0, 0, 0⟩) ∧
  (∀ x : Channel, isNaN x = true → quantize x = 0) ∧
  (∀ x : Channel, (isFinite x = true ∧ real x ≤ 0) ∨ x = 0xFFF0000000000000#64 → quantize x = 0) ∧
  (∀ x : Channel, (isFinite x = true ∧ 1 ≤ real x) ∨ x = 0x7FF0000000000000#64 → quantize x = 255) ∧
  (∀ x : Channel, expField x = 0 → quantize x = 0) ∧
  quantize 0x3FE0000000000000#64 = 128 ∧ quantize 0x3F60101010101010#64 = 1 ∧
  quantize 0x3FDFFFFFFFFFFFFF#64 = 127 ∧ quantize 0x3FD3333333333333#64 = 77 ∧
  execute ⟨4, 0x3FDCCCCCCCCCCCCD#64, 0, 0, 0⟩ = ⟨0, 0x0000000000000073#64, 0, 0, 0⟩

/-- O10. R67: DEQUANTIZE, its response, its frame and its completion. -/
def Obligations.DequantizeDeliversTheChannel : Prop :=
  (∀ (k : Byte) (s : State) (req : Request),
    let rsp : Response := ⟨0, dequantize k, 0, 0, 0⟩
    s.hs = .busy req → exec (.dequantize k) s = .next { s with
        hs := .idle
        response := some rsp
        observed := s.observed ++ [⟨req, rsp⟩] }) ∧
  (∀ o0 o1 o2 o3 : Slot,
    execute ⟨0x00000005#32, o0, o1, o2, o3⟩ = ⟨0, dequantize (o0.extractLsb' 0 8), 0, 0, 0⟩) ∧
  dequantize 0 = 0x0000000000000000#64 ∧ dequantize 255 = 0x3FF0000000000000#64 ∧
  execute ⟨5, 0x0000000000000180#64, 0, 0, 0⟩ = ⟨0, dequantize 0x80#8, 0, 0, 0⟩ ∧
  execute ⟨5, 0x0000000000000080#64, 0, 0, 0⟩ = ⟨0, 0x3FE0101010101010#64, 0, 0, 0⟩

/-- O11. The definitional part of 00_scope.md section 6: "rne64(t) maps an exact real t to the binary64 value nearest t, choosing the one with
an even fraction (bit 0 of the fraction = 0) when two are equally near". The value of a subnormal is the model's (log entry 4). -/
def Obligations.RoundingIsNearestTiesToEven : Prop :=
  (∀ (neg : Bool) (n d : Nat), 0 < d → (n : ℚ) / d / unitsPerOne ≤ real maxFinite →
    IsNearestEven ((if neg then -1 else 1) * ((n : ℚ) / d / unitsPerOne)) (rne64 neg n d)) ∧
  (∀ a b : Channel, isFinite a = true → isFinite b = true → |real a * real b| ≤ real maxFinite →
    IsNearestEven (real a * real b) (fmul64 a b)) ∧
  (∀ a b : Channel, isFinite a = true → isFinite b = true → real b ≠ 0 → |real a / real b| ≤ real maxFinite →
    IsNearestEven (real a / real b) (fdiv64 a b)) ∧
  scale = 0x406FE00000000000#64 ∧ real scale = 255

/-- O12. R14: roundHalfUp and clamp01. -/
def Obligations.HalfUpRoundingAndClamping : Prop :=
  (∀ y : Channel, isFinite y = true → signBit y = false →
    (roundHalfUp y : ℤ) = ⌊real y + 1 / 2⌋ ∧
    ∀ m : ℤ, |(roundHalfUp y : ℚ) - real y| ≤ |(m : ℚ) - real y| ∧
      (|(m : ℚ) - real y| = |(roundHalfUp y : ℚ) - real y| → m ≤ (roundHalfUp y : ℤ))) ∧
  (∀ x : Channel, isNaN x = false →
    ((x = 0xFFF0000000000000#64 ∨ isFinite x = true ∧ real x ≤ 0) → clamp01 x = 0x0000000000000000#64) ∧
    ((x = 0x7FF0000000000000#64 ∨ isFinite x = true ∧ 1 ≤ real x) → clamp01 x = 0x3FF0000000000000#64) ∧
    (isFinite x = true → 0 < real x → real x < 1 → clamp01 x = x))

/-- O13. R56: Quantize against its definition in exact real arithmetic. -/
def Obligations.QuantizeRoundsTheScaledClampedValue : Prop :=
  (∀ x : Channel, isNaN x = true → quantize x = 0x00#8) ∧
  (∀ x : Channel, isNaN x = false →
    InUnitInterval (clamp01 x) ∧
    ∃ y : Channel, y = fmul64 (clamp01 x) 0x406FE00000000000#64 ∧ IsNearestEven (real (clamp01 x) * 255) y ∧
      ((quantize x).toNat : ℤ) = ⌊real y + 1 / 2⌋ ∧ 0 ≤ ⌊real y + 1 / 2⌋ ∧ ⌊real y + 1 / 2⌋ ≤ 255)

/-- O14. R59: NaN gives byte 0. -/
def Obligations.EveryNaNQuantizesToZero : Prop :=
  ∀ (sign : BitVec 1) (payload : BitVec 52), payload ≠ 0 → quantize (sign ++ 0x7FF#11 ++ payload) = 0

/-- O15. 40_quantization.md section 3, an inference the spec marks as derived: "Quantize is monotone: for non-NaN x ≤ x′, Quantize(x) ≤
Quantize(x′)". -/
def Obligations.QuantizeNeverDecreases : Prop :=
  ∀ x y : Channel, isNaN x = false → isNaN y = false → NumLe x y → (quantize x).toNat ≤ (quantize y).toNat

/-- O16. 40_quantization.md section 3, an inference the spec marks as derived: "Quantize has an exact description by thresholds, which a model can
use instead of binary64 arithmetic". -/
def Obligations.QuantizeCountsThresholds : Prop :=
  (∀ x : Channel, isNaN x = false → (quantize x).toNat = quantizeByThresholds x) ∧
  thresholds.length = 255 ∧
  (∀ (k : Nat) (t : Channel), thresholds[k]? = some t →
    real (fmul64 t scale) = (k + 1 : ℚ) - 1 / 2 ∧ quantize t = BitVec.ofNat 8 (k + 1) ∧
    quantize (t - 1) = BitVec.ofNat 8 k)

/-- O17. 40_quantization.md section 2: the definition of Dequantize and the properties the spec marks as derived from it. -/
def Obligations.DequantizeIsTheCorrectlyRoundedQuotient : Prop :=
  (∀ k : Byte, IsNearestEven ((k.toNat : ℚ) / 255) (dequantize k) ∧ InUnitInterval (dequantize k) ∧
    signBit (dequantize k) = false) ∧
  dequantize 0 = 0x0000000000000000#64 ∧ dequantize 255 = 0x3FF0000000000000#64 ∧
  dequantize 1 = 0x3F70101010101010#64 ∧
  (∀ k : Byte, k ≠ 0 → 0 < expField (dequantize k) ∧ real (dequantize 1) ≤ real (dequantize k)) ∧
  (∀ j k : Byte, j.toNat < k.toNat → real (dequantize j) < real (dequantize k))

/-- O18. 40_quantization.md section 3, round-trip laws the spec marks as derived. -/
def Obligations.DequantizeThenQuantizeIsTheIdentityAndBackIsClose : Prop :=
  (∀ k : Byte, quantize (dequantize k) = k) ∧
  (∀ x : Channel, InUnitInterval x →
    |real (dequantize (quantize x)) - real x| ≤ |real (dequantize 132) - real 0x3FE0808080808080#64|) ∧
  quantize 0x3FE0808080808080#64 = 132 ∧
  |real (dequantize 132) - real 0x3FE0808080808080#64| < 1 / 255

/-- O19. 42_signfix.md: "The result is always a representable 32-bit integer" and, derived, "On that domain SignFix is a bijection onto
[0, 255], and SignFix(v) = uint(bits32(v)[7:0])". -/
def Obligations.SignFixNeverOverflowsAndIsABijectionOnItsDomain : Prop :=
  (∀ v : Word, sint32 ((signfixResponse v).result0.extractLsb' 0 32) =
    if sint32 v < 0 then sint32 v + 256 else sint32 v) ∧
  (∀ v : Word, -128 ≤ sint32 v → sint32 v ≤ 127 →
    (signfixResponse v).result0.toNat = (v.extractLsb' 0 8).toNat) ∧
  (∀ k : Byte, ∃! v : Int, -128 ≤ v ∧ v ≤ 127 ∧ signFix v = k.toNat)

/-- O20. 41_packing.md section 3, an inference the spec marks as derived: "The extracted lanes are exactly the word's bit fields". -/
def Obligations.ExtractedLanesAreTheWordsBitFields : Prop :=
  ∀ w : Word,
    -128 ≤ sint32 (w.sshiftRight 24) ∧ sint32 (w.sshiftRight 24) ≤ 127 ∧
    0 ≤ signFix (sint32 (w.sshiftRight 24)) ∧ signFix (sint32 (w.sshiftRight 24)) ≤ 255 ∧
    extractLanes w = ⟨w.extractLsb' 16 8, w.extractLsb' 8 8, w.extractLsb' 0 8, w.extractLsb' 24 8⟩ ∧
    alphaByte w = w.extractLsb' 24 8

/-- O21. 41_packing.md section 4 and 40_quantization.md section 4, inferences the spec marks as derived: "No lane's value ever carries into or
borrows from another lane" and "Quantizing or dequantizing one channel never depends on another channel". -/
def Obligations.LanesStayApart : Prop :=
  (∀ r g b a : Channel, extractLanes (packWord r g b a) = ⟨quantize r, quantize g, quantize b, quantize a⟩) ∧
  (∀ (x : Channel) (o1 o2 o3 : Slot), (execute ⟨4, x, o1, o2, o3⟩).result0 = 0#56 ++ quantize x) ∧
  (∀ v w : Word,
    (v.extractLsb' 16 8 = w.extractLsb' 16 8 → (unpackResponse v).result0 = (unpackResponse w).result0) ∧
    (v.extractLsb' 8 8 = w.extractLsb' 8 8 → (unpackResponse v).result1 = (unpackResponse w).result1) ∧
    (v.extractLsb' 0 8 = w.extractLsb' 0 8 → (unpackResponse v).result2 = (unpackResponse w).result2) ∧
    (v.extractLsb' 24 8 = w.extractLsb' 24 8 → (unpackResponse v).result3 = (unpackResponse w).result3)) ∧
  (∀ w : Word, (unpackResponse w).result0 = (dequantizeResponse (w.extractLsb' 16 8)).result0 ∧
    (unpackResponse w).result1 = (dequantizeResponse (w.extractLsb' 8 8)).result0 ∧
    (unpackResponse w).result2 = (dequantizeResponse (w.extractLsb' 0 8)).result0 ∧
    (unpackResponse w).result3 = (dequantizeResponse (w.extractLsb' 24 8)).result0)

/-- O22. 41_packing.md section 4, an inference the spec marks as derived: "For every word w, EXTRACTALPHA's RESULT0 equals UNPACK's RESULT3". -/
def Obligations.ExtractalphaEqualsUnpacksAlpha : Prop :=
  ∀ p q : Request, p.cmd = 2#32 → q.cmd = 1#32 → p.operand0.extractLsb' 0 32 = q.operand0.extractLsb' 0 32 →
    (execute p).result0 = (execute q).result3 ∧ (execute p).result1 = 0 ∧ (execute p).result2 = 0 ∧
      (execute p).result3 = 0

/-- O23. 41_packing.md section 3, an inference the spec marks as derived: "For every 32-bit word w, PACK of the four UNPACK results of w gives
w again". -/
def Obligations.PackOfUnpackGivesTheWordBack : Prop :=
  ∀ (w : Word) (o1 o2 o3 : Slot),
    let u := execute ⟨1#32, w.setWidth 64, o1, o2, o3⟩
    execute ⟨0#32, u.result0, u.result1, u.result2, u.result3⟩ = ⟨0, w.setWidth 64, 0, 0, 0⟩

/-- O24. 41_packing.md section 3, an inference the spec marks as derived: "each within 1/255 of its input", and "any input that is itself
Dequantize(k) comes back bit for bit". -/
def Obligations.UnpackOfPackIsWithinOneStep : Prop :=
  (∀ r g b a : Channel, InUnitInterval r → InUnitInterval g → InUnitInterval b → InUnitInterval a →
    let u := execute ⟨1#32, (execute ⟨0#32, r, g, b, a⟩).result0, 0, 0, 0⟩
    |real u.result0 - real r| < 1 / 255 ∧ |real u.result1 - real g| < 1 / 255 ∧
      |real u.result2 - real b| < 1 / 255 ∧ |real u.result3 - real a| < 1 / 255) ∧
  (∀ (r g b a : Channel) (k : Byte),
    let u := execute ⟨1#32, (execute ⟨0#32, r, g, b, a⟩).result0, 0, 0, 0⟩
    (r = dequantize k → u.result0 = r) ∧ (g = dequantize k → u.result1 = g) ∧
      (b = dequantize k → u.result2 = b) ∧ (a = dequantize k → u.result3 = a))

/-- O25. 41_packing.md section 1, an inference the spec marks as derived: "Quantize gives an alpha byte ≥ 128 exactly when the alpha channel
value a satisfies real(a) ≥ 0.5 and a is not NaN". -/
def Obligations.PackedWordIsNegativeExactlyFromHalfAlpha : Prop :=
  (∀ w : Word, (sint32 w < 0 ↔ w.getLsbD 31 = true) ∧ (sint32 w < 0 ↔ 128 ≤ (w.extractLsb' 24 8).toNat)) ∧
  (∀ r g b a : Channel, sint32 (packWord r g b a) < 0 ↔
    a = 0x7FF0000000000000#64 ∨ (isFinite a = true ∧ 1 / 2 ≤ real a))

/-- O26. 20_memory.md section 2: "If the host stores big-endian, the byte at the lowest address is alpha. If it stores little-endian, that
byte is blue". The order of the two middle bytes and the parameter's form are log entry 10. -/
def Obligations.HostStoresAlphaOrBlueFirst : Prop :=
  (∀ w : Word,
    hostBytes .bigEndian w = [w.extractLsb' 24 8, w.extractLsb' 16 8, w.extractLsb' 8 8, w.extractLsb' 0 8] ∧
    hostBytes .littleEndian w = [w.extractLsb' 0 8, w.extractLsb' 8 8, w.extractLsb' 16 8, w.extractLsb' 24 8]) ∧
  ((∀ w, hostImage w = hostBytes .bigEndian w) ∨ (∀ w, hostImage w = hostBytes .littleEndian w))

/-- O27. R88: the STATUS word and its one cause. -/
def Obligations.StatusReportsIllegalWordsOnly : Prop :=
  ∀ req : Request,
    ((execute req).status = 0#32 ∨ (execute req).status = 1#32) ∧
    (execute req).status.extractLsb' 1 31 = 0 ∧
    ((execute req).status = 1#32 ↔ IllegalWord req.cmd) ∧
    ((execute req).status = 1#32 → execute req = ⟨1, 0, 0, 0, 0⟩)

/-- O28. 60_exceptions.md section 1: "The handshake then returns to Idle as for any command" and "A model should treat this response as a
fault outcome". That step goes on, that the strict view stops, and the launch record are the model's choice (log entry 3). -/
def Obligations.IllegalCommandIsAnsweredAndTheEngineGoesIdle : Prop :=
  (∀ (s : State) (req : Request), completing s = some req → IllegalWord req.cmd →
    step s = .next { useTurn s with
      hs := .idle
      response := some ⟨1, 0, 0, 0, 0⟩
      observed := s.observed ++ [⟨req, ⟨1, 0, 0, 0, 0⟩⟩]
      faulted := true } ∧
    strictStep s = .fault .illegalCommand) ∧
  (∀ (s : State) (req : Request), completing s = some req → ¬ IllegalWord req.cmd → strictStep s = step s) ∧
  (∀ s : State, completing s = none → strictStep s = step s) ∧
  Response.values ⟨1, 0, 0, 0, 0⟩ = none

/-- O29. 60_exceptions.md section 1: "Every operand pattern of every command has a defined result"; 00_scope.md section 5: "The engine never
faults, hangs or refuses a well-formed request". The fault record is the model's field (log entry 3). -/
def Obligations.NoOperandMakesACommandFail : Prop :=
  (∀ s : State, ∃ t, step s = .next t) ∧
  (∀ (s : State) (req : Request), completing s = some req → ¬ IllegalWord req.cmd →
    ∃ t rsp, step s = .next t ∧ t.response = some rsp ∧ rsp.status = 0 ∧ rsp = execute req ∧
      t.hs = .idle ∧ t.faulted = s.faulted)

/-- O30. 70_reset_and_hazards.md section 3: "A model that records faults in its own launch state should record it there, and never clear it".
The field is the model's own (log entry 3). -/
def Obligations.TheFaultRecordIsNeverCleared : Prop :=
  ∀ s t : State, step s = .next t →
    (s.faulted = true → t.faulted = true) ∧
    (s.faulted = false → t.faulted = true → ∃ req, completing s = some req ∧ IllegalWord req.cmd)

/-- O31. The step runs the decoded command. The schedule that says whose turn it is is the model's (log entry 1). -/
def Obligations.StepRunsTheDecodedCommand : Prop :=
  ∀ (s : State) (req : Request) (i : Instr), s.hs = .busy req → decodeFrame req = .ok i →
    (s.schedule = [] → step s = exec i s) ∧
    (∀ q rest, s.schedule = .issue q :: rest → step s = exec i s) ∧
    (∀ rest, s.schedule = .complete :: rest → step s = exec i { s with schedule := rest })

/-- O32. 10_state.md section 2: "host issue(req): requires hs = Idle; hs <- Busy(req)"; 70_reset_and_hazards.md section 2: "the host's issue step
has no move while Busy". The model's choices: how long a response stays readable (log entry 2), that the engine completes when an
issue is next on the schedule (log entry 1), and that the issue stays scheduled (log entry 11). -/
def Obligations.IssueNeedsIdleAndHoldsTheFrame : Prop :=
  ∀ (s : State) (q : Request) (rest : List Move), s.schedule = .issue q :: rest →
    (s.hs = .idle → step s = .next { s with hs := .busy q, response := none, schedule := rest }) ∧
    (∀ req, s.hs = .busy req → ∃ t, step s = .next t ∧ t.hs = .idle ∧ t.schedule = .issue q :: rest ∧
      t.response = some (execute req))

/-- O33. 70_reset_and_hazards.md section 1: "If a request was Busy, it is discarded, and no response is ever delivered for it" and "Reset while
Idle has no effect". The model's choices: the schedule (log entry 1), and that a response delivered before stays readable over a
reset move (log entry 2). -/
def Obligations.ResetDiscardsTheRequestInFlight : Prop :=
  (∀ (s : State) (rest : List Move), s.schedule = .reset :: rest →
    step s = .next { s with hs := .idle, schedule := rest } ∧
    (s.hs = .idle → step s = .next { s with schedule := rest })) ∧
  (∀ (s : State) (req : Request) (n m : Nat), s.hs = .idle →
    s.schedule = .issue req :: (List.replicate n .wait ++ .reset :: .issue req :: List.replicate m .wait) →
    ∃ t, runSteps (n + m + 4) s = .next t ∧ t.hs = .idle ∧ t.schedule = [] ∧
      t.observed = s.observed ++ [⟨req, execute req⟩] ∧ t.response = some (execute req))

/-- O34. 70_reset_and_hazards.md section 2: "every accepted request is completed after finitely many steps unless reset intervenes". That time
passes as moves of a finite schedule is the model's choice (log entries 1, 12). -/
def Obligations.EveryAcceptedRequestIsCompleted : Prop :=
  ∀ (s : State) (req : Request), s.hs = .busy req → Move.reset ∉ s.schedule →
    ∃ k t, k ≤ s.schedule.length + 1 ∧ runSteps k s = .next t ∧ t.hs = .idle ∧
      t.response = some (execute req) ∧ t.observed = s.observed ++ [⟨req, execute req⟩]

/-- O35. 10_state.md section 2: "Exactly one response is delivered for each accepted request, and responses come in the order their requests
were accepted"; 20_memory.md section 5: every interleaving gives the same responses. The schedule is the model's
(log entries 1, 12), and so is the fault record (log entry 3). -/
def Obligations.RequestsAreAnsweredInOrderWhateverTheLatencies : Prop :=
  ∀ (s : State) (jobs : List (Request × Nat)), s.hs = .idle →
    s.schedule = jobs.flatMap (fun j => Move.issue j.1 :: List.replicate j.2 Move.wait) →
    ∃ t, runSteps (jobs.map fun j => j.2 + 2).sum s = .next t ∧ t.hs = .idle ∧ t.schedule = [] ∧
      t.observed = s.observed ++ jobs.map (fun j => ⟨j.1, execute j.1⟩) ∧
      t.faulted = (s.faulted || jobs.any fun j => (execute j.1).illegal)

/-- O36. 10_state.md section 1: "the response to a request is a function of that request alone"; 20_memory.md section 3: the same request gets the
same response. -/
def Obligations.ResponsesDependOnTheRequestAlone : Prop :=
  ∀ (s t : State) (req : Request), completing s = some req → completing t = some req →
    ∃ s' t', step s = .next s' ∧ step t = .next t' ∧ s'.response = t'.response ∧
      s'.hs = .idle ∧ t'.hs = .idle ∧ s'.observed.length = s.observed.length + 1

/-- O37. 10_state.md sections 1, 2 and 70_reset_and_hazards.md section 3. The fields observed, response and faulted are held as log entries 1, 2, 3 say. -/
def Obligations.EveryStepKeepsTheInvariant : Prop :=
  ∀ s t : State, s.Inv → step s = .next t → t.Inv

/-- O38. 10_state.md section 4: handshake Idle, "none; no request is held", "none; no response is pending". That the invariant holds rests on
the model's own fields at reset: the empty observation (log entry 1) and the clear fault record (log entry 3). -/
def Obligations.ResetStateIsIdleAndMeetsTheInvariant : Prop :=
  State.reset.hs = .idle ∧ (∀ req, State.reset.hs ≠ .busy req) ∧ State.reset.response = none ∧ State.reset.Inv

/-- O39. 10_state.md section 4: "Each has its own handshake (R22), and no state is shared between instances". The array is the model's (log entry 8). -/
def Obligations.EngineArrayKeepsInstancesApart : Prop :=
  ∀ (order : List Nat) (a : EngineArray), ∃ a', runInstances order a = .next a' ∧
    a'.engines.length = a.engines.length ∧
    ∀ (k : Nat) (s : State), a.engines[k]? = some s →
      ∃ t, runSteps (order.count k) s = .next t ∧ a'.engines[k]? = some t

/-- O40. 10_state.md section 2: "A model may merge issue and complete into one atomic step". That exec does so in Idle is the model's choice
(log entry 5). -/
def Obligations.CommandInIdleIsIssueAndCompletionInOne : Prop :=
  ∀ (i : Instr) (s : State), s.hs = .idle →
    exec i s = exec i { s with hs := .busy (encode i), response := none } ∧
    exec i s = .next { s with
      hs := .idle
      response := some (execute (encode i))
      observed := s.observed ++ [⟨encode i, execute (encode i)⟩] }

/-- O41. R54: what an assembled line is, form by form. -/
def Obligations.AssembledLinesAreLegalFrames : Prop :=
  (∀ r g b a : ChanLit,
    assembleLine (.pack r g b a) = some (encode (.pack (chanValue r) (chanValue g) (chanValue b) (chanValue a))) ∧
    encode (.pack (chanValue r) (chanValue g) (chanValue b) (chanValue a)) =
      ⟨0x00000000#32, chanValue r, chanValue g, chanValue b, chanValue a⟩) ∧
  (∀ w : IntLit, w.wordOk = true →
    assembleLine (.unpack w) = some (encode (.unpack (wordValue w))) ∧
    encode (.unpack (wordValue w)) = ⟨0x00000001#32, 0#32 ++ wordValue w, 0, 0, 0⟩ ∧
    assembleLine (.extractalpha w) = some (encode (.extractalpha (wordValue w))) ∧
    encode (.extractalpha (wordValue w)) = ⟨0x00000002#32, 0#32 ++ wordValue w, 0, 0, 0⟩) ∧
  (∀ v : IntLit, v.int32Ok = true →
    assembleLine (.signfix v) = some (encode (.signfix (wordValue v))) ∧
    encode (.signfix (wordValue v)) = ⟨0x00000003#32, 0#32 ++ wordValue v, 0, 0, 0⟩) ∧
  (∀ x : ChanLit,
    assembleLine (.quantize x) = some (encode (.quantize (chanValue x))) ∧
    encode (.quantize (chanValue x)) = ⟨0x00000004#32, chanValue x, 0, 0, 0⟩) ∧
  (∀ k : IntLit, k.byteOk = true →
    assembleLine (.dequantize k) = some (encode (.dequantize (byteValue k))) ∧
    encode (.dequantize (byteValue k)) = ⟨0x00000005#32, 0#56 ++ byteValue k, 0, 0, 0⟩) ∧
  (∀ (l : AsmLine) (req : Request), assembleLine l = some req → (∀ c o0 o1 o2 o3, l ≠ .frame c o0 o1 o2 o3) →
    ¬ IllegalWord req.cmd ∧ (∃ i, req = encode i ∧ decodeFrame req = .ok i) ∧
    (req.cmd ≠ 0 → req.operand1 = 0 ∧ req.operand2 = 0 ∧ req.operand3 = 0) ∧
    (req.cmd = 1 ∨ req.cmd = 2 ∨ req.cmd = 3 → req.operand0.extractLsb' 32 32 = 0) ∧
    (req.cmd = 5 → req.operand0.extractLsb' 8 56 = 0)) ∧
  (∀ (c : Word) (o0 o1 o2 o3 : Slot),
    assembleLine (.frame c.toNat o0.toNat o1.toNat o2.toNat o3.toNat) = some ⟨c, o0, o1, o2, o3⟩)

/-- O42. 30_encoding.md section 4: the literals and their ranges. That a hexadecimal digit may be of either case and the sign of a zero are the
model's choices (log entries 9 and 4). -/
def Obligations.LiteralsHaveTheirValuesAndRanges : Prop :=
  (∀ n : Int, (-2147483648 ≤ n ∧ n ≤ 4294967295 →
      assembleLine (.unpack (.decimal n)) = some (encode (.unpack (bits32 n))) ∧
      assembleLine (.extractalpha (.decimal n)) = some (encode (.extractalpha (bits32 n)))) ∧
    (n < -2147483648 ∨ 4294967295 < n →
      assembleLine (.unpack (.decimal n)) = none ∧ assembleLine (.extractalpha (.decimal n)) = none)) ∧
  (∀ n : Int, (-2147483648 ≤ n ∧ n ≤ 2147483647 →
      assembleLine (.signfix (.decimal n)) = some (encode (.signfix (bits32 n))) ∧ sint32 (bits32 n) = n) ∧
    (n < -2147483648 ∨ 2147483647 < n → assembleLine (.signfix (.decimal n)) = none)) ∧
  (∀ n : Int, (0 ≤ n ∧ n ≤ 255 →
      ∃ k : Byte, (k.toNat : Int) = n ∧ assembleLine (.dequantize (.decimal n)) = some (encode (.dequantize k))) ∧
    (n < 0 ∨ 255 < n → assembleLine (.dequantize (.decimal n)) = none)) ∧
  (∀ (ds : List Char) (v : Nat), readDigits hexDigit 16 ds = some v →
    readIntLit ('0' :: 'x' :: ds) = some (.hex ds.length v) ∧ v < 16 ^ ds.length ∧
    readChanLit ('f' :: '6' :: '4' :: ':' :: '0' :: 'x' :: ds) =
      if ds.length = 16 then some (.f64 (BitVec.ofNat 64 v)) else none) ∧
  (∀ w : Word,
    assembleLine (.unpack (.hex 8 w.toNat)) = some (encode (.unpack w)) ∧
    assembleLine (.extractalpha (.hex 8 w.toNat)) = some (encode (.extractalpha w)) ∧
    assembleLine (.signfix (.hex 8 w.toNat)) = some (encode (.signfix w))) ∧
  (∀ k : Byte, assembleLine (.dequantize (.hex 2 k.toNat)) = some (encode (.dequantize k))) ∧
  (∀ d v : Nat, d ≠ 8 → assembleLine (.unpack (.hex d v)) = none ∧ assembleLine (.extractalpha (.hex d v)) = none ∧
    assembleLine (.signfix (.hex d v)) = none) ∧
  (∀ d v : Nat, d ≠ 2 → assembleLine (.dequantize (.hex d v)) = none) ∧
  (∀ x : Channel, chanValue (.f64 x) = x) ∧
  ((readChanLit ['n', 'a', 'n']).map chanValue = some 0x7FF8000000000000#64 ∧
    (readChanLit ['i', 'n', 'f']).map chanValue = some 0x7FF0000000000000#64 ∧
    (readChanLit ['-', 'i', 'n', 'f']).map chanValue = some 0xFFF0000000000000#64) ∧
  (∀ (neg : Bool) (m : Nat) (e : Int), (m : ℚ) * (10 : ℚ) ^ e ≤ real maxFinite →
    IsNearestEven ((if neg then -1 else 1) * ((m : ℚ) * (10 : ℚ) ^ e)) (chanValue (.decimal neg m e)))

/-- O43. 30_encoding.md section 4: "Mnemonics are case-insensitive. A `;` starts a comment that runs to the end of the line". Which characters are
blanks is the model's choice (log entry 9). -/
def Obligations.CommentsAndLetterCaseDoNotMatter : Prop :=
  (∀ text comment : List Char, ';' ∉ text → stripComment (text ++ ';' :: comment) = stripComment text) ∧
  (∀ m n : List Char, m.map Char.toLower = n.map Char.toLower →
    (∀ c ∈ m, isBlank c = false) → (∀ c ∈ n, isBlank c = false) →
    readLine m = readLine n ∧
    ∀ (b : Char) (operands : List Char), isBlank b = true → readLine (m ++ b :: operands) = readLine (n ++ b :: operands))

/-- O44. 70_reset_and_hazards.md section 3: "It ends when the host has issued its last request, the handshake is Idle, and every accepted request
has its response". The schedule, the observation's field and the fault record are the model's (log entries 1, 3, 12). -/
def Obligations.RunsEndAndThenObserveNothingMore : Prop :=
  (∀ s : State, s.finished = true ↔ s.hs = .idle ∧ ∀ req, Move.issue req ∉ s.schedule) ∧
  (∀ s t : State, s.finished = true → step s = .next t →
    t.finished = true ∧ t.observed = s.observed ∧ t.faulted = s.faulted) ∧
  (∀ s : State, ∃ k t, k ≤ 2 * s.schedule.length + 1 ∧ runSteps k s = .next t ∧ t.finished = true)
end

