-- ==== Sys2Proof/Laws/Assembler.lean ====
section
/-! SUPPORT. What splitting a text at its first matching character gives, for the proofs about lines and comments. -/

namespace Sys2Proof.Machine

/-- Where no character matches, the text is one part. -/
theorem splitFirst_of_forall_false {p : Char → Bool} {a : List Char} (h : ∀ c ∈ a, p c = false) :
    splitFirst p a = (a, none) := by
  induction a with
  | nil => rfl
  | cons c cs ih => simp [splitFirst, h c (by simp), ih fun d hd => h d (by simp [hd])]

/-- Where the first character that matches stands between two texts, the split is those texts. -/
theorem splitFirst_append_cons {p : Char → Bool} {a : List Char} {b : Char} (rest : List Char)
    (h : ∀ c ∈ a, p c = false) (hb : p b = true) : splitFirst p (a ++ b :: rest) = (a, some rest) := by
  induction a with
  | nil => simp [splitFirst, hb]
  | cons c cs ih => simp [splitFirst, h c (by simp), ih fun d hd => h d (by simp [hd])]

end Sys2Proof.Machine
end

