-- ==== Sys2Proof/Laws/Binary64.lean ====
section
/-! SUPPORT. Small facts about the floating-point primitives, for later proofs to cite. -/

namespace Sys2Proof.Machine

theorem unitsPerOne_pos : 0 < unitsPerOne := by unfold unitsPerOne; positivity

/-- Rounding to the nearest integer gives the quotient or the next integer. -/
theorem roundToEven_bounds (n d : Nat) : n / d ≤ roundToEven n d ∧ roundToEven n d ≤ n / d + 1 := by
  unfold roundToEven
  split
  · omega
  · split
    · omega
    · split <;> omega

/-- The result of rounding is within half a divisor of the numerator. -/
theorem roundToEven_near (n d : Nat) (hd : 0 < d) :
    2 * (roundToEven n d * d) ≤ 2 * n + d ∧ 2 * n ≤ 2 * (roundToEven n d * d) + d := by
  have hn : d * (n / d) + n % d = n := Nat.div_add_mod n d
  have hr : n % d < d := Nat.mod_lt _ hd
  have hc : n / d * d = d * (n / d) := Nat.mul_comm _ _
  have hc1 : (n / d + 1) * d = d * (n / d) + d := by rw [Nat.add_mul, Nat.mul_comm, Nat.one_mul]
  unfold roundToEven
  split
  · rw [hc]; omega
  · split
    · rw [hc1]; omega
    · split
      · rw [hc]; omega
      · rw [hc1]; omega

/-- Where the numerator is a multiple of the divisor, rounding is exact. -/
theorem roundToEven_exact (q d : Nat) (hd : 0 < d) : roundToEven (q * d) d = q := by
  simp [roundToEven, Nat.mul_div_cancel _ hd, hd]

/-- A magnitude never passes the pattern of infinity. -/
theorem rneMagnitude_le (n d : Nat) : rneMagnitude n d ≤ 0x7FF0000000000000 := Nat.min_le_right _ _

/-- What `clamp01` can answer. -/
theorem clamp01_cases (x : Channel) :
    (atMostZero x = true ∧ clamp01 x = posZero) ∨
    (atMostZero x = false ∧ atLeastOne x = true ∧ clamp01 x = one64) ∨
    (atMostZero x = false ∧ atLeastOne x = false ∧ clamp01 x = x) := by
  unfold clamp01
  cases atMostZero x <;> cases atLeastOne x <;> simp

/-- What `quantize` can answer. -/
theorem quantize_cases (x : Channel) :
    (isNaN x = true ∧ quantize x = 0) ∨
    (isNaN x = false ∧ quantize x = BitVec.ofNat 8 (roundHalfUp (fmul64 (clamp01 x) scale))) := by
  unfold quantize
  cases isNaN x <;> simp [nanByte]

end Sys2Proof.Machine
end

