-- ==== Sys2Proof/Laws/Decode.lean ====
section
/-! SUPPORT. What the decoder can answer, once. -/

namespace Sys2Proof

/-- A command word is its two fields. -/
theorem cmd_eq_of_fields {c d : Word} (hr : cmdRsv c = cmdRsv d) (ho : cmdOp c = cmdOp d) : c = d := by
  apply BitVec.eq_of_getLsbD_eq
  intro i hi
  rcases Nat.lt_or_ge i 3 with h | h
  · have := congrArg (fun v => v.getLsbD i) ho
    simpa [cmdOp, h] using this
  · have := congrArg (fun v => v.getLsbD (i - 3)) hr
    simp only [cmdRsv, BitVec.getLsbD_extractLsb'] at this
    have h29 : i - 3 < 29 := by omega
    have h3 : 3 + (i - 3) = i := by omega
    simpa [h29, h3] using this

/-- Everything the decoder can answer: one of the six commands, by its command word, or IllegalCommand. -/
theorem decodeFrame_cases (req : Request) :
    (req.cmd = 0#32 ∧ decodeFrame req = .ok (.pack req.operand0 req.operand1 req.operand2 req.operand3)) ∨
    (req.cmd = 1#32 ∧ decodeFrame req = .ok (.unpack (wordOperand req))) ∨
    (req.cmd = 2#32 ∧ decodeFrame req = .ok (.extractalpha (wordOperand req))) ∨
    (req.cmd = 3#32 ∧ decodeFrame req = .ok (.signfix (wordOperand req))) ∨
    (req.cmd = 4#32 ∧ decodeFrame req = .ok (.quantize req.operand0)) ∨
    (req.cmd = 5#32 ∧ decodeFrame req = .ok (.dequantize (byteOperand req))) ∨
    ((cmdRsv req.cmd ≠ 0 ∨ cmdOp req.cmd = 6#3 ∨ cmdOp req.cmd = 7#3) ∧ decodeFrame req = .error .illegalCommand) := by
  by_cases hr : cmdRsv req.cmd = 0
  · have key : ∀ d : Word, cmdRsv d = 0 → cmdOp req.cmd = cmdOp d → req.cmd = d :=
      fun d hd ho => cmd_eq_of_fields (hr.trans hd.symm) ho
    have hop : ∀ o : BitVec 3, o = 0#3 ∨ o = 1#3 ∨ o = 2#3 ∨ o = 3#3 ∨ o = 4#3 ∨ o = 5#3 ∨ o = 6#3 ∨ o = 7#3 := by
      decide
    rcases hop (cmdOp req.cmd) with h | h | h | h | h | h | h | h
    · exact .inl ⟨key _ (by decide) (h.trans (by decide)), by simp [decodeFrame, hr, h]⟩
    · exact .inr (.inl ⟨key _ (by decide) (h.trans (by decide)), by simp [decodeFrame, hr, h]⟩)
    · exact .inr (.inr (.inl ⟨key _ (by decide) (h.trans (by decide)), by simp [decodeFrame, hr, h]⟩))
    · exact .inr (.inr (.inr (.inl ⟨key _ (by decide) (h.trans (by decide)), by simp [decodeFrame, hr, h]⟩)))
    · exact .inr (.inr (.inr (.inr (.inl ⟨key _ (by decide) (h.trans (by decide)), by simp [decodeFrame, hr, h]⟩))))
    · exact .inr (.inr (.inr (.inr (.inr (.inl ⟨key _ (by decide) (h.trans (by decide)), by simp [decodeFrame, hr, h]⟩)))))
    · exact .inr (.inr (.inr (.inr (.inr (.inr ⟨.inr (.inl h), by simp [decodeFrame, hr, h]⟩)))))
    · exact .inr (.inr (.inr (.inr (.inr (.inr ⟨.inr (.inr h), by simp [decodeFrame, hr, h]⟩)))))
  · exact .inr (.inr (.inr (.inr (.inr (.inr ⟨.inl hr, if_pos hr⟩)))))

end Sys2Proof
end

