-- ==== Sys2Proof/Laws/PerInstr.lean ====
section
/-! SUPPORT. Per-instruction family EncodedWord: the command word the assembler gives each command (R45, R54). -/

namespace Sys2Proof.Laws.EncodedWord

/-- The command word of an encoded command selects a command (never a reserved word, R54), holds its OP in bits 2:0 and zeros in
bits 31:3. -/
def Statement (i : Instr) : Prop :=
  cmdWellFormed (encode i).cmd = true ∧ cmdOp (encode i).cmd = i.op ∧ cmdRsv (encode i).cmd = 0

theorem pack (r g b a : Channel) : Statement (.pack r g b a) :=
  ⟨(by decide : cmdWellFormed 0#32 = true), (by decide : cmdOp 0#32 = 0#3), (by decide : cmdRsv 0#32 = 0)⟩
theorem unpack (w : Word) : Statement (.unpack w) :=
  ⟨(by decide : cmdWellFormed 1#32 = true), (by decide : cmdOp 1#32 = 1#3), (by decide : cmdRsv 1#32 = 0)⟩
theorem extractalpha (w : Word) : Statement (.extractalpha w) :=
  ⟨(by decide : cmdWellFormed 2#32 = true), (by decide : cmdOp 2#32 = 2#3), (by decide : cmdRsv 2#32 = 0)⟩
theorem signfix (v : Word) : Statement (.signfix v) :=
  ⟨(by decide : cmdWellFormed 3#32 = true), (by decide : cmdOp 3#32 = 3#3), (by decide : cmdRsv 3#32 = 0)⟩
theorem quantize (x : Channel) : Statement (.quantize x) :=
  ⟨(by decide : cmdWellFormed 4#32 = true), (by decide : cmdOp 4#32 = 4#3), (by decide : cmdRsv 4#32 = 0)⟩
theorem dequantize (k : Byte) : Statement (.dequantize k) :=
  ⟨(by decide : cmdWellFormed 5#32 = true), (by decide : cmdOp 5#32 = 5#3), (by decide : cmdRsv 5#32 = 0)⟩

end Sys2Proof.Laws.EncodedWord
end

