-- ==== Sys2Proof/Laws/State.lean ====
section
/-! SUPPORT. What each update of a state does to each field, so that no later proof unfolds an update. -/

namespace Sys2Proof.Machine

@[simp] theorem issueRequest_hs (q : Request) (s : State) : (issueRequest q s).hs = .busy q := rfl
@[simp] theorem issueRequest_response (q : Request) (s : State) : (issueRequest q s).response = none := rfl
@[simp] theorem issueRequest_schedule (q : Request) (s : State) : (issueRequest q s).schedule = s.schedule := rfl
@[simp] theorem issueRequest_observed (q : Request) (s : State) : (issueRequest q s).observed = s.observed := rfl
@[simp] theorem issueRequest_faulted (q : Request) (s : State) : (issueRequest q s).faulted = s.faulted := rfl

@[simp] theorem deliver_hs (q : Request) (r : Response) (s : State) : (deliver q r s).hs = .idle := rfl
@[simp] theorem deliver_response (q : Request) (r : Response) (s : State) : (deliver q r s).response = some r := rfl
@[simp] theorem deliver_schedule (q : Request) (r : Response) (s : State) : (deliver q r s).schedule = s.schedule := rfl
@[simp] theorem deliver_observed (q : Request) (r : Response) (s : State) :
    (deliver q r s).observed = s.observed ++ [⟨q, r⟩] := rfl
@[simp] theorem deliver_faulted (q : Request) (r : Response) (s : State) : (deliver q r s).faulted = s.faulted := rfl

@[simp] theorem resetEngine_hs (s : State) : (resetEngine s).hs = .idle := rfl
@[simp] theorem resetEngine_response (s : State) : (resetEngine s).response = s.response := rfl
@[simp] theorem resetEngine_schedule (s : State) : (resetEngine s).schedule = s.schedule := rfl
@[simp] theorem resetEngine_observed (s : State) : (resetEngine s).observed = s.observed := rfl
@[simp] theorem resetEngine_faulted (s : State) : (resetEngine s).faulted = s.faulted := rfl

@[simp] theorem takeIllegalCommand_hs (q : Request) (s : State) : (takeIllegalCommand q s).hs = .idle := rfl
@[simp] theorem takeIllegalCommand_response (q : Request) (s : State) :
    (takeIllegalCommand q s).response = some illegalResponse := rfl
@[simp] theorem takeIllegalCommand_schedule (q : Request) (s : State) :
    (takeIllegalCommand q s).schedule = s.schedule := rfl
@[simp] theorem takeIllegalCommand_observed (q : Request) (s : State) :
    (takeIllegalCommand q s).observed = s.observed ++ [⟨q, illegalResponse⟩] := rfl
@[simp] theorem takeIllegalCommand_faulted (q : Request) (s : State) : (takeIllegalCommand q s).faulted = true := rfl

@[simp] theorem useTurn_hs (s : State) : (useTurn s).hs = s.hs := by unfold useTurn; split <;> rfl
@[simp] theorem useTurn_response (s : State) : (useTurn s).response = s.response := by unfold useTurn; split <;> rfl
@[simp] theorem useTurn_observed (s : State) : (useTurn s).observed = s.observed := by unfold useTurn; split <;> rfl
@[simp] theorem useTurn_faulted (s : State) : (useTurn s).faulted = s.faulted := by unfold useTurn; split <;> rfl

@[simp] theorem placeRequest_hs (q : Request) (s : State) : (placeRequest q s).hs = .busy q := rfl
@[simp] theorem placeRequest_response (q : Request) (s : State) : (placeRequest q s).response = none := rfl
@[simp] theorem placeRequest_schedule (q : Request) (s : State) :
    (placeRequest q s).schedule = .complete :: s.schedule := rfl
@[simp] theorem placeRequest_observed (q : Request) (s : State) : (placeRequest q s).observed = s.observed := rfl
@[simp] theorem placeRequest_faulted (q : Request) (s : State) : (placeRequest q s).faulted = s.faulted := rfl

@[simp] theorem reset_hs : State.reset.hs = .idle := rfl
@[simp] theorem reset_response : State.reset.response = none := rfl
@[simp] theorem reset_schedule : State.reset.schedule = [] := rfl
@[simp] theorem reset_observed : State.reset.observed = [] := rfl
@[simp] theorem reset_faulted : State.reset.faulted = false := rfl

end Sys2Proof.Machine
end

