-- ==== Sys2Proof/Laws/Step.lean ====
section
/-! SUPPORT. What a command and a step can do, said once: every proof about a step starts from `step_cases`. -/

namespace Sys2Proof.Machine

/-- Every command delivers its response and does nothing else. -/
theorem exec_eq (i : Instr) (s : State) : exec i s = .next (deliver (acceptedRequest i s) (respond i) s) := by
  cases i <;> rfl

/-- The engine has its turn exactly while Busy with nothing, an issue or a completion next on the schedule. -/
theorem completing_eq_some {s : State} {req : Request} :
    completing s = some req ↔
      s.hs = .busy req ∧
        (s.schedule = [] ∨ (∃ q rest, s.schedule = .issue q :: rest) ∨ ∃ rest, s.schedule = .complete :: rest) := by
  obtain ⟨hs, _, sched, _, _⟩ := s
  cases hs with
  | idle => simp [completing]
  | busy q =>
    cases sched with
    | nil => simp [completing]
    | cons m rest => cases m <;> simp [completing]

/-- No command that executed answers ILLEGAL (R26, R48). -/
@[simp] theorem respond_illegal (i : Instr) : (respond i).illegal = false := by
  have h : statusExecuted.getLsbD 0 = false := by decide
  cases i <;> exact h

@[simp] theorem illegalResponse_illegal : illegalResponse.illegal = true := by decide

/-- Completing the request in flight delivers `execute` of it, and records a fault if it is illegal. -/
theorem completeRequest_eq {req : Request} {s : State} (h : s.hs = .busy req) :
    completeRequest req s = .next (deliver req (execute req) { s with faulted := s.faulted || (execute req).illegal }) := by
  obtain ⟨hs, _, _, _, _⟩ := s
  obtain rfl : hs = .busy req := h
  unfold completeRequest execute
  cases decodeFrame req with
  | ok i => simp [exec_eq, acceptedRequest]
  | error e => cases e; simp [takeIllegalCommand]

/-- Everything one step can do. -/
theorem step_cases (s : State) :
    (∃ req, completing s = some req ∧ step s = .next (deliver req (execute req)
        { useTurn s with faulted := s.faulted || (execute req).illegal })) ∨
    (completing s = none ∧ s.schedule = [] ∧ step s = .next s) ∨
    (∃ req rest, s.hs = .idle ∧ s.schedule = .issue req :: rest ∧
        step s = .next (issueRequest req { s with schedule := rest })) ∨
    (∃ rest, s.hs = .idle ∧ s.schedule = .complete :: rest ∧ step s = .next { s with schedule := rest }) ∨
    (∃ rest, s.schedule = .wait :: rest ∧ step s = .next { s with schedule := rest }) ∨
    (∃ rest, s.schedule = .reset :: rest ∧ step s = .next (resetEngine { s with schedule := rest })) := by
  cases hc : completing s with
  | some req =>
    have hb := (completing_eq_some.mp hc).1
    exact .inl ⟨req, rfl, by simp [step, hc, completeRequest_eq (s := useTurn s) (by simpa using hb)]⟩
  | none =>
    have hstep : step s = .next (otherMove s) := by simp [step, hc]
    have hidle : ∀ (m : Move) rest, s.schedule = m :: rest → m ≠ .wait → m ≠ .reset → s.hs = .idle := by
      intro m rest hm hw hr
      cases hs : s.hs with
      | idle => rfl
      | busy req => cases m <;> simp_all [completing]
    refine .inr ?_
    cases hm : s.schedule with
    | nil => exact .inl ⟨rfl, rfl, by simp [hstep, otherMove, hm]⟩
    | cons m rest =>
      cases m with
      | issue req =>
        exact .inr (.inl ⟨req, rest, hidle _ rest hm (by simp) (by simp), rfl, by simp [hstep, otherMove, hm]⟩)
      | complete =>
        exact .inr (.inr (.inl ⟨rest, hidle _ rest hm (by simp) (by simp), rfl, by simp [hstep, otherMove, hm]⟩))
      | wait => exact .inr (.inr (.inr (.inl ⟨rest, rfl, by simp [hstep, otherMove, hm]⟩)))
      | reset => exact .inr (.inr (.inr (.inr ⟨rest, rfl, by simp [hstep, otherMove, hm]⟩)))

end Sys2Proof.Machine
end

