-- ==== Sys2Proof/Laws/Run.lean ====
section
/-! SUPPORT. How runs of several steps compose, and what waits do to them. -/

namespace Sys2Proof.Machine

@[simp] theorem runSteps_zero (s : State) : runSteps 0 s = .next s := rfl

theorem runSteps_succ {s t : State} (k : Nat) (h : step s = .next t) : runSteps (k + 1) s = runSteps k t := by
  simp [runSteps, h]

/-- A run that reaches a state goes on from there. -/
theorem runSteps_add {a : Nat} (b : Nat) {s t : State} (h : runSteps a s = .next t) :
    runSteps (a + b) s = runSteps b t := by
  induction a generalizing s with
  | zero =>
    simp only [runSteps, Host.Outcome.next.injEq] at h
    rw [Nat.zero_add, h]
  | succ a ih =>
    rw [Nat.succ_add]
    simp only [runSteps] at h ⊢
    split at h
    · exact ih h
    · cases h
    · cases h

/-- A wait uses up its turn and nothing else. -/
theorem step_wait {s : State} {rest : List Move} (h : s.schedule = .wait :: rest) :
    step s = .next { s with schedule := rest } := by
  have hc : completing s = none := by
    cases hs : s.hs <;> simp [completing, hs, h]
  simp [step, hc, otherMove, h]

/-- Any number of waits does the same. -/
theorem runSteps_waits (n k : Nat) {s : State} {rest : List Move} (h : s.schedule = List.replicate n .wait ++ rest) :
    runSteps (n + k) s = runSteps k { s with schedule := rest } := by
  induction n generalizing s with
  | zero => rw [Nat.zero_add, show rest = s.schedule by simpa using h.symm]
  | succ n ih =>
    rw [Nat.succ_add, runSteps_succ _ (step_wait (rest := List.replicate n .wait ++ rest) (by simpa [List.replicate_succ] using h))]
    exact ih rfl

end Sys2Proof.Machine
end

