-- ==== Sys2Proof/Tests/Slice0.lean ====
section
/-! SUPPORT. Tests of the model, with expected values from the spec (95_test_vectors.md and the rules named), and a witness for the
hypotheses of every statement that has some. -/

-- One test after the other: each kernel evaluation otherwise holds a thread, with its stack, of its own.
set_option Elab.async false

namespace Sys2Proof.Tests

open Sys2Proof Sys2Proof.Machine

/-- A state with a frame in flight and nothing scheduled. -/
def busyWith (cmd : Word) (o0 o1 o2 o3 : Slot) : State := { State.reset with hs := .busy ⟨cmd, o0, o1, o2, o3⟩ }

/-- A frame in flight and a schedule. -/
def busyThen (cmd : Word) (o0 : Slot) (sched : List Move) : State :=
  { State.reset with hs := .busy ⟨cmd, o0, 0, 0, 0⟩, schedule := sched }

/-- The next state of an outcome, if there is one. -/
def nextOf : Host.Outcome State Fault Refusal → Option State
  | .next s => some s
  | .fault _ => none
  | .refused _ => none

/-- The response that can be read after an outcome. -/
def responseOf (o : Host.Outcome State Fault Refusal) : Option Response := (nextOf o).bind (·.response)

/-! Decoding: words written out bit by bit from the opcode map (R45), and illegal words (95 section 2.7). -/

theorem test_decode_pack : decodeFrame ⟨0b00000000000000000000000000000000#32, 1, 2, 3, 4⟩ = .ok (.pack 1 2 3 4) := by decide
theorem test_decode_unpack :
    decodeFrame ⟨0b00000000000000000000000000000001#32, 0xFFFFFFFF731A80FF#64, 2, 3, 4⟩ = .ok (.unpack 0x731A80FF#32) := by decide
theorem test_decode_extractalpha :
    decodeFrame ⟨0b00000000000000000000000000000010#32, 0x80000000#64, 0, 0, 0⟩ = .ok (.extractalpha 0x80000000#32) := by decide
theorem test_decode_signfix :
    decodeFrame ⟨0b00000000000000000000000000000011#32, 0xFFFFFF8C#64, 0, 0, 0⟩ = .ok (.signfix 0xFFFFFF8C#32) := by decide
theorem test_decode_quantize :
    decodeFrame ⟨0b00000000000000000000000000000100#32, 0x3FD3333333333333#64, 9, 9, 9⟩ = .ok (.quantize 0x3FD3333333333333#64) := by
  decide
theorem test_decode_dequantize :
    decodeFrame ⟨0b00000000000000000000000000000101#32, 0x180#64, 0, 0, 0⟩ = .ok (.dequantize 0x80#8) := by decide
theorem test_decode_reserved_words :
    [0x00000006#32, 0x00000007#32, 0x00000008#32, 0x80000001#32, 0xFFFFFFFF#32].all
      (fun c => decide (decodeFrame ⟨c, 0, 0, 0, 0⟩ = .error .illegalCommand)) = true := by decide
theorem test_table_words :
    (List.range 8).map (decodeTableWord 32) =
      [some (.pack 0 0 0 0), some (.unpack 0), some (.extractalpha 0), some (.signfix 0), some (.quantize 0),
        some (.dequantize 0), none, none] := by decide +kernel
theorem test_frame_bits : frameOfBits (5 + 0x80 * 2 ^ 32 + 7 * 2 ^ 224) = ⟨5, 0x80, 0, 0, 7⟩ := by decide +kernel

/-! Well-formedness: an ill-formed term for each check, refused (R25, R50, R53). -/

theorem test_wf_words : (List.range 6).all (fun c => cmdWellFormed (BitVec.ofNat 32 c)) = true := by decide
theorem test_wf_refuses_op6 : cmdWellFormed 6 = false := by decide
theorem test_wf_refuses_rsv : cmdWellFormed 0x00000008#32 = false := by decide
theorem test_wf_refuses_word_low : (AsmLine.unpack (.decimal (-2147483649))).wellFormed = false := by decide
theorem test_wf_refuses_word_high : (AsmLine.extractalpha (.decimal 4294967296)).wellFormed = false := by decide
theorem test_wf_refuses_word_digits : (AsmLine.unpack (.hex 4 0x1234)).wellFormed = false := by decide
theorem test_wf_refuses_int32 : (AsmLine.signfix (.decimal 2147483648)).wellFormed = false := by decide
theorem test_wf_refuses_byte : (AsmLine.dequantize (.decimal 256)).wellFormed = false := by decide
theorem test_wf_refuses_byte_digits : (AsmLine.dequantize (.hex 3 0x0FF)).wellFormed = false := by decide
theorem test_wf_refuses_frame : (AsmLine.frame (2 ^ 32) 0 0 0 0).wellFormed = false := by decide

/-! One step of each command (95 sections 2.1 to 2.6). -/

theorem test_pack_example :
    responseOf (step (busyWith 0 0x3FB999999999999A#64 0x3FE0000000000000#64 0x3FF0000000000000#64 0x3FDCCCCCCCCCCCCD#64)) =
      some ⟨0, 0x00000000731A80FF#64, 0, 0, 0⟩ := by decide +kernel
theorem test_pack_out_of_range :
    responseOf (step (busyWith 0 0x3FF8000000000000#64 0xBFD0000000000000#64 0x7FF8000000000000#64 0x7FF0000000000000#64)) =
      some ⟨0, 0x00000000FFFF0000#64, 0, 0, 0⟩ := by decide +kernel
theorem test_unpack_negative :
    responseOf (step (busyWith 1 0x87654321#64 0 0 0)) =
      some ⟨0, 0x3FD9595959595959#64, 0x3FD0D0D0D0D0D0D1#64, 0x3FC0909090909091#64, 0x3FE0F0F0F0F0F0F1#64⟩ := by decide +kernel
theorem test_unpack_ignored_bits :
    responseOf (step (busyWith 1 0xFFFFFFFF731A80FF#64 (-1) (-1) (-1))) =
      some ⟨0, 0x3FBA1A1A1A1A1A1A#64, 0x3FE0101010101010#64, 0x3FF0000000000000#64, 0x3FDCDCDCDCDCDCDD#64⟩ := by decide +kernel
theorem test_extractalpha_negative :
    responseOf (step (busyWith 2 0x8C1A80FF#64 0 0 0)) = some ⟨0, 0x3FE1919191919192#64, 0, 0, 0⟩ := by decide +kernel
theorem test_extractalpha_positive :
    responseOf (step (busyWith 2 0x7F000000#64 0 0 0)) = some ⟨0, 0x3FDFDFDFDFDFDFE0#64, 0, 0, 0⟩ := by decide +kernel
theorem test_signfix_lowest :
    responseOf (step (busyWith 3 0x80000000#64 0 0 0)) = some ⟨0, 0x0000000080000100#64, 0, 0, 0⟩ := by decide +kernel
theorem test_signfix_in_domain :
    responseOf (step (busyWith 3 0xFFFFFF8C#64 0 0 0)) = some ⟨0, 0x000000000000008C#64, 0, 0, 0⟩ := by decide +kernel
theorem test_quantize_tie :
    responseOf (step (busyWith 4 0x3FD3333333333333#64 0 0 0)) = some ⟨0, 0x000000000000004D#64, 0, 0, 0⟩ := by decide +kernel
theorem test_quantize_below_half :
    responseOf (step (busyWith 4 0x3FDFFFFFFFFFFFFF#64 0 0 0)) = some ⟨0, 127, 0, 0, 0⟩ := by decide +kernel
theorem test_dequantize_low_byte :
    responseOf (step (busyWith 5 0x180#64 0 0 0)) = some ⟨0, 0x3FE0101010101010#64, 0, 0, 0⟩ := by decide +kernel
theorem test_dequantize_top :
    responseOf (step (busyWith 5 0xFF#64 0 0 0)) = some ⟨0, 0x3FF0000000000000#64, 0, 0, 0⟩ := by decide +kernel

/-! IllegalCommand (95 section 2.7 and P3): the response, the step that goes on, the strict view that stops. -/

theorem test_illegal_response :
    responseOf (step (busyWith 0x80000001#32 0x731A80FF#64 0 0 0)) = some ⟨1, 0, 0, 0, 0⟩ := by decide +kernel
theorem test_illegal_then_idle :
    ((nextOf (step (busyWith 6 0 0 0 0))).map fun t => (t.hs, t.faulted)) = some (.idle, true) := by decide +kernel
theorem test_illegal_strict : strictStep (busyWith 6 0 0 0 0) = .fault .illegalCommand := by rfl

/-! The handshake (R22, R100, R105; 95 P4). -/

theorem test_issue_waits_while_busy :
    ((nextOf (step (busyThen 5 0 [.issue ⟨4, 0, 0, 0, 0⟩]))).map fun t => (t.hs, t.schedule)) =
      some (.idle, [.issue ⟨4, 0, 0, 0, 0⟩]) := by decide +kernel
theorem test_reset_discards :
    ((nextOf (step (busyThen 5 0 [.reset]))).map fun t => (t.hs, t.response, t.observed)) = some (.idle, none, []) := by
  decide +kernel
theorem test_wait_keeps_busy :
    ((nextOf (step (busyThen 5 0 [.wait]))).map fun t => (t.hs, t.schedule)) = some (.busy ⟨5, 0, 0, 0, 0⟩, []) := by
  decide +kernel
theorem test_fetch_word_runs_first :
    responseOf (step (State.reset.withFetchWord 32 5)) = some ⟨0, 0, 0, 0, 0⟩ := by decide +kernel

theorem test_fetch_word_over_a_request_in_flight :
    ((nextOf (step ((busyWith 6 0 0 0 0).withFetchWord 32 5))).map fun t => t.observed) =
      some [⟨⟨5, 0, 0, 0, 0⟩, ⟨0, 0, 0, 0, 0⟩⟩] := by decide +kernel

/-! The end of a run (R108): moves that issue nothing may be left. -/

theorem test_finished_with_moves_left :
    ({ State.reset with schedule := [.wait, .complete, .reset] } : State).finished = true := by decide
theorem test_not_finished_before_the_last_issue :
    ({ State.reset with schedule := [.wait, .issue ⟨5, 0, 0, 0, 0⟩] } : State).finished = false ∧
    (busyWith 5 0 0 0 0).finished = false := by decide

/-! The tables of 95 sections 2.2 and 2.3, and the ties of section 2.1. -/

theorem test_thresholds :
    (List.range 255).all (fun k => decide (quantize ((thresholds[k]?).getD 0) = BitVec.ofNat 8 (k + 1)) &&
      decide (quantize ((thresholds[k]?).getD 0 - 1) = BitVec.ofNat 8 k)) = true := by decide +kernel
theorem test_every_tie_goes_up :
    (List.range 255).all (fun k => decide (quantize (rne64 false ((2 * k + 1) * unitsPerOne) 510) = BitVec.ofNat 8 (k + 1))) =
      true := by decide +kernel
theorem test_dequantize_rows :
    [dequantize 1, dequantize 17, dequantize 33, dequantize 129, dequantize 254] =
      [0x3F70101010101010#64, 0x3FB1111111111111#64, 0x3FC0909090909091#64, 0x3FE0303030303030#64,
        0x3FEFDFDFDFDFDFE0#64] := by decide +kernel

/-! The assembler (95 P1, P3; section 2.4). -/

theorem test_assemble_pack :
    assembleText "Pack 0.1, 0.5, 1.0, 0.45".toList =
      some ⟨0, 0x3FB999999999999A#64, 0x3FE0000000000000#64, 0x3FF0000000000000#64, 0x3FDCCCCCCCCCCCCD#64⟩ := by decide +kernel
theorem test_assemble_subnormal : assembleText "QUANTIZE 5e-324".toList = some ⟨4, 1, 0, 0, 0⟩ := by decide +kernel
theorem test_assemble_program :
    assembleProgram ["SIGNFIX -128 ; lowest".toList, "; a comment".toList, ".frame 0x00000006 0 0 0 0".toList] =
      some [⟨3, 0x00000000FFFFFF80#64, 0, 0, 0⟩, ⟨6, 0, 0, 0, 0⟩] := by decide +kernel
theorem test_assemble_hex_and_special_channels :
    assembleProgram ["unPack 0x87654321".toList, "Quantize f64:0x3FD3333333333333".toList, "QUANTIZE -inf".toList] =
      some [⟨1, 0x87654321#64, 0, 0, 0⟩, ⟨4, 0x3FD3333333333333#64, 0, 0, 0⟩, ⟨4, 0xFFF0000000000000#64, 0, 0, 0⟩] := by
  decide +kernel
theorem test_assemble_rejects : assembleText "DEQUANTIZE 256".toList = none := by decide +kernel
theorem test_assemble_rejects_the_program :
    assembleProgram ["UNPACK 0".toList, "DEQUANTIZE 256".toList] = none := by decide +kernel

/-! Witnesses: concrete values that meet the hypotheses of the statements. -/

theorem witness_DecodingIsTotal :
    IllegalWord 0x80000001#32 ∧ IllegalWord 6#32 ∧ IllegalWord 7#32 ∧ ¬ IllegalWord 5#32 ∧ ¬ IllegalWord 0#32 := by
  unfold IllegalWord; decide
theorem witness_IgnoredOperandBitsHaveNoEffect :
    AgreeOnNamedBits ⟨5, 0x180, 0, 0, 0⟩ ⟨5, 0x80, 1, 2, 3⟩ ∧ ¬ IllegalWord 5#32 ∧
    AgreeOnNamedBits ⟨6, 1, 1, 1, 1⟩ ⟨6, 0, 0, 0, 0⟩ := by
  unfold AgreeOnNamedBits IllegalWord; decide
theorem witness_commands_in_flight : (busyWith 0 0 0 0 0).hs = .busy ⟨0, 0, 0, 0, 0⟩ := by rfl
theorem witness_QuantizeDeliversTheByte :
    isNaN 0x7FF0000000000001#64 = true ∧
    (isFinite 0xBFD0000000000000#64 = true ∧ real 0xBFD0000000000000#64 ≤ 0) ∧
    (isFinite 0x8000000000000000#64 = true ∧ real 0x8000000000000000#64 ≤ 0) ∧
    (isFinite 0x3FF0000000000000#64 = true ∧ 1 ≤ real 0x3FF0000000000000#64) ∧ expField 0x0000000000000001#64 = 0 := by
  decide +kernel
theorem witness_RoundingIsNearestTiesToEven :
    ((3 : ℕ) : ℚ) / (2 : ℕ) / unitsPerOne ≤ real maxFinite ∧ isFinite maxFinite = true ∧
    |real 0x3FE0000000000000#64 * real scale| ≤ real maxFinite ∧ isFinite scale = true ∧
    real scale ≠ 0 ∧ |real 0xBFF0000000000000#64 / real scale| ≤ real maxFinite := by
  decide +kernel
theorem witness_HalfUpRoundingAndClamping :
    (isFinite 0x3FE0000000000000#64 = true ∧ signBit 0x3FE0000000000000#64 = false) ∧
    isNaN 0xFFF0000000000000#64 = false ∧ isNaN 0x7FF0000000000000#64 = false ∧
    (isNaN 0x3FE0000000000000#64 = false ∧ 0 < real 0x3FE0000000000000#64 ∧ real 0x3FE0000000000000#64 < 1) := by
  decide +kernel
theorem witness_QuantizeRoundsTheScaledClampedValue :
    isNaN 0x7FF8000000000000#64 = true ∧ isNaN 0x3FD3333333333333#64 = false := by decide +kernel
theorem witness_EveryNaNQuantizesToZero : (1#52 : BitVec 52) ≠ 0 := by decide
theorem witness_QuantizeNeverDecreases :
    NumLe 0xFFF0000000000000#64 0x3FE0000000000000#64 ∧ NumLe 0x3FE0000000000000#64 0x7FF0000000000000#64 ∧
    NumLe 0xBFD0000000000000#64 0x3FE0000000000000#64 ∧ isNaN 0xFFF0000000000000#64 = false ∧
    isNaN 0x3FE0000000000000#64 = false ∧ isNaN 0x7FF0000000000000#64 = false := by
  unfold NumLe; decide +kernel
theorem witness_QuantizeCountsThresholds :
    thresholds[0]? = some 0x3F60101010101010#64 ∧ thresholds[254]? = some 0x3FEFEFEFEFEFEFF0#64 ∧
    isNaN 0x8000000000000000#64 = false := by decide +kernel
theorem witness_DequantizeIsTheCorrectlyRoundedQuotient : (1 : Byte) ≠ 0 ∧ (254 : Byte).toNat < (255 : Byte).toNat := by decide
theorem witness_InUnitInterval :
    InUnitInterval 0x0000000000000000#64 ∧ InUnitInterval 0x3FDCCCCCCCCCCCCD#64 ∧ InUnitInterval 0x3FF0000000000000#64 := by
  unfold InUnitInterval; decide +kernel
theorem witness_ChannelsFirstRoundTrip :
    (0x3FBA1A1A1A1A1A1A#64 : Channel) = dequantize 26 ∧
    (execute ⟨1#32, (execute ⟨0#32, 0x3FBA1A1A1A1A1A1A#64, 0x7FF8000000000000#64, 0xFFF0000000000000#64, 0x3FDCCCCCCCCCCCCD#64⟩).result0,
      0, 0, 0⟩).result0 = 0x3FBA1A1A1A1A1A1A#64 := by decide +kernel
theorem witness_SignFixDomain : -128 ≤ sint32 0xFFFFFF80#32 ∧ sint32 0x7F#32 ≤ 127 ∧ sint32 0x80000000#32 < 0 := by decide
theorem witness_LanesStayApart :
    (0x731A80FF#32).extractLsb' 16 8 = (0x001A0000#32).extractLsb' 16 8 ∧
    (0x731A80FF#32).extractLsb' 8 8 = (0x00008000#32).extractLsb' 8 8 ∧
    (0x731A80FF#32).extractLsb' 0 8 = (0x000000FF#32).extractLsb' 0 8 ∧
    (0x731A80FF#32).extractLsb' 24 8 = (0x73000000#32).extractLsb' 24 8 := by decide
theorem witness_ExtractalphaEqualsUnpacksAlpha :
    (0xFFFFFFFF8C1A80FF#64).extractLsb' 0 32 = (0x8C1A80FF#64).extractLsb' 0 32 := by decide
theorem witness_PackedWordIsNegative :
    isFinite 0x3FE0000000000000#64 = true ∧ 1 / 2 ≤ real 0x3FE0000000000000#64 ∧ sint32 0x80000000#32 < 0 := by decide +kernel
theorem witness_completing :
    completing (busyWith 6 0 0 0 0) = some ⟨6, 0, 0, 0, 0⟩ ∧ completing (busyThen 5 9 [.complete]) = some ⟨5, 9, 0, 0, 0⟩ ∧
    completing (busyThen 5 9 [.issue ⟨0, 0, 0, 0, 0⟩]) = some ⟨5, 9, 0, 0, 0⟩ ∧ completing State.reset = none ∧
    completing (busyThen 5 9 [.wait]) = none := by decide
theorem witness_illegal_and_legal_words : IllegalWord 6#32 ∧ ¬ IllegalWord 4#32 := by unfold IllegalWord; decide
theorem witness_TheFaultRecordIsNeverCleared :
    (∃ t, step { busyThen 5 0 [.reset] with faulted := true } = .next t ∧ t.faulted = true) ∧
    ∃ t, step (busyWith 7 0 0 0 0) = .next t ∧ t.faulted = true := ⟨⟨_, rfl, rfl⟩, ⟨_, rfl, rfl⟩⟩
theorem witness_StepRunsTheDecodedCommand :
    (busyThen 5 3 []).hs = .busy ⟨5, 3, 0, 0, 0⟩ ∧ decodeFrame ⟨5, 3, 0, 0, 0⟩ = .ok (.dequantize 3) ∧
    (busyThen 5 3 []).schedule = [] ∧ (busyThen 5 3 [.complete, .wait]).schedule = .complete :: [.wait] ∧
    (busyThen 5 3 [.issue ⟨0, 0, 0, 0, 0⟩]).schedule = .issue ⟨0, 0, 0, 0, 0⟩ :: [] := by decide
theorem witness_IssueNeedsIdle :
    ({ State.reset with schedule := [.issue ⟨4, 0, 0, 0, 0⟩] } : State).schedule = .issue ⟨4, 0, 0, 0, 0⟩ :: [] ∧
    ({ State.reset with schedule := [.issue ⟨4, 0, 0, 0, 0⟩] } : State).hs = .idle ∧
    (busyThen 5 0 [.issue ⟨4, 0, 0, 0, 0⟩]).hs = .busy ⟨5, 0, 0, 0, 0⟩ := by decide
theorem witness_ResetDiscardsTheRequestInFlight :
    (busyThen 5 0 [.reset]).schedule = .reset :: [] ∧ ({ State.reset with schedule := [.reset] } : State).hs = .idle ∧
    ({ State.reset with schedule := [.issue ⟨5, 1, 0, 0, 0⟩, .wait, .reset, .issue ⟨5, 1, 0, 0, 0⟩] } : State).schedule =
      .issue ⟨5, 1, 0, 0, 0⟩ :: (List.replicate 1 .wait ++ .reset :: .issue ⟨5, 1, 0, 0, 0⟩ :: List.replicate 0 .wait) := by
  decide
theorem witness_EveryAcceptedRequestIsCompleted :
    (busyThen 5 0 [.wait, .wait]).hs = .busy ⟨5, 0, 0, 0, 0⟩ ∧ Move.reset ∉ (busyThen 5 0 [.wait, .wait]).schedule := by decide
theorem witness_RequestsAreAnsweredInOrder :
    ({ State.reset with schedule := [.issue ⟨6, 0, 0, 0, 0⟩, .wait, .issue ⟨5, 1, 0, 0, 0⟩] } : State).schedule =
      [((⟨6, 0, 0, 0, 0⟩ : Request), 1), (⟨5, 1, 0, 0, 0⟩, 0)].flatMap
        (fun j => Move.issue j.1 :: List.replicate j.2 Move.wait) := by decide
theorem witness_EveryStepKeepsTheInvariant :
    (busyWith 5 0 0 0 0).Inv ∧ ∃ t, step (busyWith 5 0 0 0 0) = .next t :=
  ⟨⟨by simp [busyWith], by simp [busyWith], by simp [busyWith]⟩, ⟨_, rfl⟩⟩
theorem witness_CommandInIdle : State.reset.hs = .idle := rfl
theorem witness_EngineArray : (EngineArray.reset 1).engines[1]? = some State.reset ∧ (EngineArray.reset 1).wf = true := by decide
theorem witness_AssembledLines :
    assembleLine (.dequantize (.hex 2 0x4D)) = some ⟨5, 77, 0, 0, 0⟩ ∧
    assembleLine (.signfix (.decimal (-116))) = some ⟨3, 0xFFFFFF8C#64, 0, 0, 0⟩ ∧
    assembleLine (.pack .nan .inf .negInf (.f64 1)) =
      some ⟨0, 0x7FF8000000000000#64, 0x7FF0000000000000#64, 0xFFF0000000000000#64, 1⟩ := by decide +kernel
theorem witness_LiteralRanges :
    (assembleLine (.unpack (.decimal (-2147483648)))).isSome = true ∧ (assembleLine (.unpack (.decimal 4294967295))).isSome = true ∧
    (assembleLine (.signfix (.decimal 2147483647))).isSome = true ∧ assembleLine (.signfix (.decimal 2147483648)) = none ∧
    (assembleLine (.dequantize (.decimal 255))).isSome = true ∧ assembleLine (.dequantize (.decimal (-1))) = none ∧
    ((45 : ℕ) : ℚ) * (10 : ℚ) ^ (-2 : ℤ) ≤ real maxFinite := by decide +kernel
theorem witness_HexLiterals :
    readDigits hexDigit 16 "3FD3333333333333".toList = some 0x3FD3333333333333 ∧ "3FD3333333333333".toList.length = 16 ∧
    readDigits hexDigit 16 "4d".toList = some 77 ∧ (IntLit.hex 8 0x731A80FF).wordOk = true ∧
    (IntLit.hex 8 0x731A80FF).int32Ok = true ∧ (IntLit.hex 2 0x4D).byteOk = true := by decide +kernel
theorem witness_Comments :
    ';' ∉ ['U', ' ', '0'] ∧ ['P', 'a'].map Char.toLower = ['p', 'A'].map Char.toLower ∧
    (∀ c ∈ ['P', 'a'], isBlank c = false) ∧ (∀ c ∈ ['p', 'A'], isBlank c = false) ∧ isBlank '\t' = true :=
  ⟨by decide, by decide, by simp [isBlank], by simp [isBlank], by decide⟩
theorem witness_RunsEnd :
    ({ State.reset with schedule := [.reset] } : State).finished = true ∧
    ∃ t, step { State.reset with schedule := [.reset] } = .next t := ⟨by decide, _, rfl⟩

end Sys2Proof.Tests
end

