-- ==== Sys2Proof/Proofs/HalfUpAndClamp.lean ====
section
/-! PROOFS. The sign and size of `real(x)` read off the pattern, `roundHalfUp` and `clamp01` in exact arithmetic (R12, R14), and O12. -/

namespace Sys2Proof.Machine

/-! ### The value of a pattern -/

theorem unitsPerOne_cast_pos : (0 : ℚ) < unitsPerOne := Nat.cast_pos.mpr unitsPerOne_pos

theorem real_of_signBit_false {x : Channel} (h : signBit x = false) :
    real x = (magUnits x : ℚ) / unitsPerOne := by
  rw [real, h, if_neg Bool.false_ne_true, one_mul]

theorem real_of_signBit_true {x : Channel} (h : signBit x = true) :
    real x = -((magUnits x : ℚ) / unitsPerOne) := by
  rw [real, h, if_pos rfl, neg_one_mul, neg_div]

theorem real_nonpos_of_signBit {x : Channel} (h : signBit x = true) : real x ≤ 0 := by
  rw [real_of_signBit_true h, neg_nonpos]
  positivity

/-- `atMostZero` reads the sign of the denoted number off the pattern. -/
theorem atMostZero_iff_real_nonpos (x : Channel) : atMostZero x = true ↔ real x ≤ 0 := by
  cases hs : signBit x with
  | true => simp [atMostZero, hs, real_nonpos_of_signBit hs]
  | false =>
    rw [real_of_signBit_false hs, div_le_iff₀ unitsPerOne_cast_pos, zero_mul]
    simp [atMostZero, hs]

theorem atMostZero_eq_false_of_real_pos {x : Channel} (h : 0 < real x) : atMostZero x = false :=
  Bool.eq_false_iff.mpr fun hz => absurd ((atMostZero_iff_real_nonpos x).mp hz) (not_le.mpr h)

theorem isInf_eq_false_of_isFinite {x : Channel} (h : isFinite x = true) : isInf x = false := by
  have hexp : expField x ≠ 0x7FF := by simpa [isFinite] using h
  simp [isInf, hexp]

/-- On a positive finite value `atLeastOne` compares the denoted number with 1. -/
theorem atLeastOne_iff_one_le_real {x : Channel} (hf : isFinite x = true) (hx : 0 < real x) :
    atLeastOne x = true ↔ 1 ≤ real x := by
  have hs : signBit x = false :=
    Bool.eq_false_iff.mpr fun hneg => absurd (real_nonpos_of_signBit hneg) (not_le.mpr hx)
  rw [real_of_signBit_false hs, one_le_div₀ unitsPerOne_cast_pos, Nat.cast_le]
  simp [atLeastOne, isInf_eq_false_of_isFinite hf]

/-! ### roundHalfUp -/

/-- R14: the quotient that `roundHalfUp` computes is the floor of `real(y) + 1/2`. -/
theorem roundHalfUp_eq_floor {y : Channel} (h : signBit y = false) :
    (roundHalfUp y : ℤ) = ⌊real y + 1 / 2⌋ := by
  have hu := unitsPerOne_cast_pos
  have hq : real y + 1 / 2 =
      ((2 * magUnits y + unitsPerOne : ℕ) : ℚ) / ((2 * unitsPerOne : ℕ) : ℚ) := by
    rw [real_of_signBit_false h]
    generalize unitsPerOne = u at hu
    push_cast
    field_simp
  rw [hq, Rat.floor_natCast_div_natCast, roundHalfUp, Int.natCast_div]

/-- On values with the sign bit clear, `roundHalfUp` is Mathlib's `round`. -/
theorem roundHalfUp_eq_round {y : Channel} (h : signBit y = false) :
    (roundHalfUp y : ℤ) = round (real y) := by
  rw [round_eq, roundHalfUp_eq_floor h]

/-- `round` takes the larger of two equally near integers: one above it is more than 1/2 away. -/
theorem le_round_of_abs_sub_eq {t : ℚ} {m : ℤ} (h : |(m : ℚ) - t| = |(round t : ℚ) - t|) :
    m ≤ round t := by
  by_contra hm
  have hnext : (round t : ℚ) + 1 ≤ m := by exact_mod_cast not_le.mp hm
  have hlt : t + 1 / 2 < round t + 1 := by rw [round_eq]; exact Int.lt_floor_add_one _
  have hhalf : |(round t : ℚ) - t| ≤ 1 / 2 := by rw [abs_sub_comm]; exact abs_sub_round t
  linarith [le_abs_self ((m : ℚ) - t)]

/-! ### clamp01 -/

theorem clamp01_of_atMostZero {x : Channel} (h : atMostZero x = true) : clamp01 x = posZero := by
  simp [clamp01, h]

theorem clamp01_of_atLeastOne {x : Channel} (h0 : atMostZero x = false) (h1 : atLeastOne x = true) :
    clamp01 x = one64 := by
  simp [clamp01, h0, h1]

theorem clamp01_of_between {x : Channel} (h0 : atMostZero x = false) (h1 : atLeastOne x = false) :
    clamp01 x = x := by
  simp [clamp01, h0, h1]

theorem clamp01_of_real_nonpos {x : Channel} (h : real x ≤ 0) : clamp01 x = posZero :=
  clamp01_of_atMostZero ((atMostZero_iff_real_nonpos x).mpr h)

theorem clamp01_of_one_le_real {x : Channel} (hf : isFinite x = true) (h : 1 ≤ real x) :
    clamp01 x = one64 := by
  have hpos : 0 < real x := zero_lt_one.trans_le h
  exact clamp01_of_atLeastOne (atMostZero_eq_false_of_real_pos hpos) ((atLeastOne_iff_one_le_real hf hpos).mpr h)

theorem clamp01_of_real_mem_Ioo {x : Channel} (hf : isFinite x = true) (h0 : 0 < real x) (h1 : real x < 1) :
    clamp01 x = x :=
  clamp01_of_between (atMostZero_eq_false_of_real_pos h0) <|
    Bool.eq_false_iff.mpr fun hone => absurd ((atLeastOne_iff_one_le_real hf h0).mp hone) (not_le.mpr h1)

/-- −∞ has its sign bit set. -/
theorem clamp01_negInf : clamp01 0xFFF0000000000000#64 = posZero :=
  clamp01_of_atMostZero (by decide)

/-- +∞ has its sign bit clear and a nonzero magnitude, and counts as at least one. -/
theorem clamp01_posInf : clamp01 0x7FF0000000000000#64 = one64 :=
  clamp01_of_atLeastOne (by decide +kernel) (by decide)

/-- Settles O12: `roundHalfUp` is the floor and so Mathlib's `round`, whose ties go up; `clamp01` by the three ranges of `real(x)`. -/
theorem halfUpRoundingAndClamping : Obligations.HalfUpRoundingAndClamping := by
  refine ⟨fun y _ hs => ⟨roundHalfUp_eq_floor hs, fun m => ?_⟩, fun x _ => ⟨?_, ?_, clamp01_of_real_mem_Ioo⟩⟩
  · have hr : (roundHalfUp y : ℚ) = (round (real y) : ℚ) := by exact_mod_cast roundHalfUp_eq_round hs
    rw [hr, roundHalfUp_eq_round hs]
    refine ⟨?_, le_round_of_abs_sub_eq⟩
    rw [abs_sub_comm, abs_sub_comm (m : ℚ)]
    exact round_le (real y) m
  · rintro (rfl | ⟨-, h⟩)
    · exact clamp01_negInf
    · exact clamp01_of_real_nonpos h
  · rintro (rfl | ⟨hf, h⟩)
    · exact clamp01_posInf
    · exact clamp01_of_one_le_real hf h

end Sys2Proof.Machine
end

section
/-! PROOFS. The command word selects the command and the named operand bits fill it (R45 to R50), every assembled line is a legal frame
(R54), and O2, O3, O4 and O41. -/

namespace Sys2Proof.Machine

/-! ### The opcode map, row by row -/

section OpcodeMap
variable {req : Request}

theorem decodeFrame_pack (h : req.cmd = 0#32) :
    decodeFrame req = .ok (.pack req.operand0 req.operand1 req.operand2 req.operand3) := by
  simp [decodeFrame, cmdRsv, cmdOp, h]

theorem decodeFrame_unpack (h : req.cmd = 1#32) : decodeFrame req = .ok (.unpack (wordOperand req)) := by
  simp [decodeFrame, cmdRsv, cmdOp, h]

theorem decodeFrame_extractalpha (h : req.cmd = 2#32) : decodeFrame req = .ok (.extractalpha (wordOperand req)) := by
  simp [decodeFrame, cmdRsv, cmdOp, h]

theorem decodeFrame_signfix (h : req.cmd = 3#32) : decodeFrame req = .ok (.signfix (wordOperand req)) := by
  simp [decodeFrame, cmdRsv, cmdOp, h]

theorem decodeFrame_quantize (h : req.cmd = 4#32) : decodeFrame req = .ok (.quantize req.operand0) := by
  simp [decodeFrame, cmdRsv, cmdOp, h]

theorem decodeFrame_dequantize (h : req.cmd = 5#32) : decodeFrame req = .ok (.dequantize (byteOperand req)) := by
  simp [decodeFrame, cmdRsv, cmdOp, h]

theorem decodeFrame_of_illegalWord (h : IllegalWord req.cmd) : decodeFrame req = .error .illegalCommand := by
  by_cases hr : cmdRsv req.cmd = 0
  · have hop : cmdOp req.cmd = 6#3 ∨ cmdOp req.cmd = 7#3 := h.resolve_left (not_not_intro hr)
    rcases hop with ho | ho <;> simp [decodeFrame, hr, ho]
  · exact if_pos hr

end OpcodeMap

/-- Settles O3: the rows one by one; OP 6 and 7 are illegal words. -/
theorem opcodeMapWordsDecode : Obligations.OpcodeMapWordsDecode := fun _ _ _ _ =>
  ⟨decodeFrame_pack rfl, decodeFrame_unpack rfl, decodeFrame_extractalpha rfl, decodeFrame_signfix rfl,
    decodeFrame_quantize rfl, decodeFrame_dequantize rfl,
    decodeFrame_of_illegalWord (.inr (.inl rfl)), decodeFrame_of_illegalWord (.inr (.inr rfl))⟩

/-! ### What the command word alone decides -/

theorem commandWord_toNat_le (i : Instr) : (commandWord i).toNat ≤ 5 := by
  cases i <;> simp [commandWord]

theorem cmdOp_commandWord (i : Instr) : cmdOp (commandWord i) = i.op := by
  cases i <;> rfl

/-- Either the frame decodes to a command whose word it carries, or its word is illegal and it is rejected. -/
theorem decodeFrame_ok_or_illegalWord (req : Request) :
    (∃ i, decodeFrame req = .ok i ∧ commandWord i = req.cmd) ∨
      (IllegalWord req.cmd ∧ decodeFrame req = .error .illegalCommand) := by
  rcases decodeFrame_cases req with ⟨hc, hd⟩ | ⟨hc, hd⟩ | ⟨hc, hd⟩ | ⟨hc, hd⟩ | ⟨hc, hd⟩ | ⟨hc, hd⟩ | hillegal
  iterate 6 · exact .inl ⟨_, hd, hc.symm⟩
  · exact .inr hillegal

theorem commandWord_of_decodeFrame_ok {req : Request} {i : Instr} (h : decodeFrame req = .ok i) :
    commandWord i = req.cmd := by
  rcases decodeFrame_ok_or_illegalWord req with ⟨j, hj, hword⟩ | ⟨-, herr⟩
  · obtain rfl : j = i := Except.ok.inj (hj.symm.trans h)
    exact hword
  · cases herr.symm.trans h

theorem op_of_decodeFrame_ok {req : Request} {i : Instr} (h : decodeFrame req = .ok i) : i.op = cmdOp req.cmd := by
  rw [← commandWord_of_decodeFrame_ok h, cmdOp_commandWord]

/-- The decoder rejects exactly the words R50 calls illegal. -/
theorem decodeFrame_eq_error_iff {req : Request} :
    decodeFrame req = .error .illegalCommand ↔ IllegalWord req.cmd := by
  refine ⟨fun herr => ?_, decodeFrame_of_illegalWord⟩
  rcases decodeFrame_ok_or_illegalWord req with ⟨i, hi, -⟩ | ⟨hillegal, -⟩
  · cases hi.symm.trans herr
  · exact hillegal

theorem exists_decodeFrame_ok_iff {req : Request} : (∃ i, decodeFrame req = .ok i) ↔ ¬ IllegalWord req.cmd := by
  rw [← decodeFrame_eq_error_iff]
  cases decodeFrame req with
  | ok i => simp
  | error e => cases e; simp

/-- Settles O2: rejection is a property of the word, and a decoded command has the word and the OP it was decoded from. -/
theorem decodingIsTotal : Obligations.DecodingIsTotal := by
  refine ⟨fun _ => decodeFrame_of_illegalWord, fun req hlegal => ?_, fun p q hcmd => ⟨?_, fun i j hi hj => ?_⟩⟩
  · obtain ⟨i, hi⟩ := exists_decodeFrame_ok_iff.mpr hlegal
    have hword := commandWord_of_decodeFrame_ok hi
    exact ⟨hword ▸ commandWord_toNat_le i, i, hi, op_of_decodeFrame_ok hi, hword⟩
  · rw [decodeFrame_eq_error_iff, decodeFrame_eq_error_iff, hcmd]
  · rw [op_of_decodeFrame_ok hi, op_of_decodeFrame_ok hj, hcmd]

/-! ### Operand bits a command does not name -/

/-- The named bits decide what is decoded, operands included (R47, R49). -/
theorem decodeFrame_eq_of_agreeOnNamedBits {p q : Request} (h : AgreeOnNamedBits p q) :
    decodeFrame p = decodeFrame q := by
  obtain ⟨hcmd, hpack, hword, hchan, hbyte⟩ := h
  have hq : ∀ {c : Word}, p.cmd = c → q.cmd = c := fun hc => hcmd.symm.trans hc
  have hw : p.cmd = 1#32 ∨ p.cmd = 2#32 ∨ p.cmd = 3#32 → wordOperand p = wordOperand q := hword
  have hb : p.cmd = 5#32 → byteOperand p = byteOperand q := hbyte
  rcases decodeFrame_cases p with ⟨hc, hd⟩ | ⟨hc, hd⟩ | ⟨hc, hd⟩ | ⟨hc, hd⟩ | ⟨hc, hd⟩ | ⟨hc, hd⟩ | ⟨hill, hd⟩
  · obtain ⟨h0, h1, h2, h3⟩ := hpack hc
    rw [hd, decodeFrame_pack (hq hc), h0, h1, h2, h3]
  · rw [hd, decodeFrame_unpack (hq hc), hw (.inl hc)]
  · rw [hd, decodeFrame_extractalpha (hq hc), hw (.inr (.inl hc))]
  · rw [hd, decodeFrame_signfix (hq hc), hw (.inr (.inr hc))]
  · rw [hd, decodeFrame_quantize (hq hc), hchan hc]
  · rw [hd, decodeFrame_dequantize (hq hc), hb hc]
  · rw [hd, decodeFrame_of_illegalWord (hcmd ▸ hill)]

theorem execute_of_decodeFrame_ok {req : Request} {i : Instr} (h : decodeFrame req = .ok i) :
    execute req = respond i := by
  simp [execute, h]

/-- A command that executed answers STATUS 0 (R48). -/
theorem respond_status (i : Instr) : (respond i).status = 0 := by
  cases i <;> rfl

theorem execute_status_of_legal {req : Request} (h : ¬ IllegalWord req.cmd) : (execute req).status = 0 := by
  obtain ⟨i, hi⟩ := exists_decodeFrame_ok_iff.mpr h
  rw [execute_of_decodeFrame_ok hi, respond_status]

/-- Settles O4: `execute` sees a frame only through what is decoded from it. -/
theorem ignoredOperandBitsHaveNoEffect : Obligations.IgnoredOperandBitsHaveNoEffect := by
  intro p q h
  have hdecode := decodeFrame_eq_of_agreeOnNamedBits h
  have hcmd : p.cmd = q.cmd := h.1
  exact ⟨by rw [execute, hdecode, execute], fun hlegal =>
    ⟨execute_status_of_legal hlegal, execute_status_of_legal (hcmd ▸ hlegal)⟩⟩

/-! ### Frames the assembler lays out -/

theorem extractLsb'_zext64_low {n : Nat} (hn : n ≤ 64) (v : BitVec n) : (zext64 v).extractLsb' 0 n = v := by
  ext i hi
  simp [hi, hi.trans_le hn]

/-- Widening leaves zeros in whatever field stands above the operand. -/
theorem extractLsb'_zext64_high {n : Nat} (k : Nat) (v : BitVec n) : (zext64 v).extractLsb' n k = 0 := by
  ext i hi
  simp

theorem zext64_word (w : Word) : zext64 w = 0#32 ++ w :=
  BitVec.setWidth_eq_append (by decide)

theorem zext64_byte (k : Byte) : zext64 k = 0#56 ++ k :=
  BitVec.setWidth_eq_append (by decide)

theorem encode_cmd (i : Instr) : (encode i).cmd = commandWord i := by
  cases i <;> rfl

/-- The decoder reads back the command a frame was laid out for. -/
theorem decodeFrame_encode (i : Instr) : decodeFrame (encode i) = .ok i := by
  have hword : ∀ w : Word, (zext64 w).extractLsb' 0 32 = w := extractLsb'_zext64_low (by decide)
  have hbyte : ∀ k : Byte, (zext64 k).extractLsb' 0 8 = k := extractLsb'_zext64_low (by decide)
  cases i with
  | pack r g b a => exact decodeFrame_pack rfl
  | unpack w => rw [decodeFrame_unpack rfl, wordOperand, encode, hword]
  | extractalpha w => rw [decodeFrame_extractalpha rfl, wordOperand, encode, hword]
  | signfix v => rw [decodeFrame_signfix rfl, wordOperand, encode, hword]
  | quantize x => exact decodeFrame_quantize rfl
  | dequantize k => rw [decodeFrame_dequantize rfl, byteOperand, encode, hbyte]

theorem encode_legal (i : Instr) : ¬ IllegalWord (encode i).cmd :=
  exists_decodeFrame_ok_iff.mp ⟨i, decodeFrame_encode i⟩

/-- Only PACK's frame uses OPERAND1 to OPERAND3. -/
theorem encode_upper_operands (i : Instr) (h : (encode i).cmd ≠ 0) :
    (encode i).operand1 = 0 ∧ (encode i).operand2 = 0 ∧ (encode i).operand3 = 0 := by
  cases i with
  | pack r g b a => exact absurd rfl h
  | _ => exact ⟨rfl, rfl, rfl⟩

theorem encode_operand0_above_word (i : Instr) (h : (encode i).cmd = 1 ∨ (encode i).cmd = 2 ∨ (encode i).cmd = 3) :
    (encode i).operand0.extractLsb' 32 32 = 0 := by
  rw [encode_cmd] at h
  cases i with
  | unpack w => exact extractLsb'_zext64_high 32 w
  | extractalpha w => exact extractLsb'_zext64_high 32 w
  | signfix v => exact extractLsb'_zext64_high 32 v
  | _ => simp [commandWord] at h

theorem encode_operand0_above_byte (i : Instr) (h : (encode i).cmd = 5) :
    (encode i).operand0.extractLsb' 8 56 = 0 := by
  rw [encode_cmd] at h
  cases i with
  | dequantize k => exact extractLsb'_zext64_high 56 k
  | _ => simp [commandWord] at h

/-! ### Assembled lines -/

theorem assembleLine_of_wellFormed {l : AsmLine} (h : l.wellFormed = true) : assembleLine l = some (lineFrame l) :=
  if_pos h

theorem lineFrame_of_assembleLine {l : AsmLine} {req : Request} (h : assembleLine l = some req) : lineFrame l = req := by
  unfold assembleLine at h
  split at h
  · exact Option.some.inj h
  · cases h

/-- A line other than the directive `.frame` is laid out by `encode`. -/
theorem lineFrame_eq_encode {l : AsmLine} (h : ∀ c o0 o1 o2 o3, l ≠ .frame c o0 o1 o2 o3) :
    ∃ i, lineFrame l = encode i := by
  cases l with
  | frame c o0 o1 o2 o3 => exact absurd rfl (h c o0 o1 o2 o3)
  | pack r g b a => exact ⟨.pack _ _ _ _, rfl⟩
  | unpack w => exact ⟨.unpack _, rfl⟩
  | extractalpha w => exact ⟨.extractalpha _, rfl⟩
  | signfix v => exact ⟨.signfix _, rfl⟩
  | quantize x => exact ⟨.quantize _, rfl⟩
  | dequantize k => exact ⟨.dequantize _, rfl⟩

theorem assembleLine_frame (c : Word) (o0 o1 o2 o3 : Slot) :
    assembleLine (.frame c.toNat o0.toNat o1.toNat o2.toNat o3.toNat) = some ⟨c, o0, o1, o2, o3⟩ := by
  have hwf : (AsmLine.frame c.toNat o0.toNat o1.toNat o2.toNat o3.toNat).wellFormed = true := by
    simp only [AsmLine.wellFormed, BitVec.isLt, decide_true, Bool.and_self]
  rw [assembleLine_of_wellFormed hwf]
  simp [lineFrame]

/-- Settles O41: each form by `encode`'s own layout, and every line but `.frame` by what holds of all encoded frames. -/
theorem assembledLinesAreLegalFrames : Obligations.AssembledLinesAreLegalFrames := by
  refine ⟨fun r g b a => ⟨assembleLine_of_wellFormed rfl, rfl⟩, fun w hw => ?unpackOrAlpha, fun v hv => ?signfix,
    fun x => ⟨assembleLine_of_wellFormed rfl, rfl⟩, fun k hk => ?dequantize, fun l req hl hne => ?anyCommand,
    assembleLine_frame⟩
  case unpackOrAlpha =>
    rw [← zext64_word]
    exact ⟨assembleLine_of_wellFormed hw, rfl, assembleLine_of_wellFormed hw, rfl⟩
  case signfix =>
    rw [← zext64_word]
    exact ⟨assembleLine_of_wellFormed hv, rfl⟩
  case dequantize =>
    rw [← zext64_byte]
    exact ⟨assembleLine_of_wellFormed hk, rfl⟩
  case anyCommand =>
    obtain ⟨i, hi⟩ := lineFrame_eq_encode hne
    obtain rfl : req = encode i := (lineFrame_of_assembleLine hl).symm.trans hi
    exact ⟨encode_legal i, ⟨i, rfl, decodeFrame_encode i⟩, encode_upper_operands i, encode_operand0_above_word i,
      encode_operand0_above_byte i⟩

end Sys2Proof.Machine
end

section
/-! PROOFS. `rne64` and `fmul64` round to nearest, ties to even, over exact rationals (R12, R13); Quantize against exact arithmetic (R56
to R60); the commands QUANTIZE and DEQUANTIZE (R66, R67); and O9, O10, O13 and O14. -/

namespace Sys2Proof.Machine

/-! ### Rounding to an integer -/

theorem roundToEven_even_of_tie {n d : Nat} (h : 2 * (n % d) = d) : roundToEven n d % 2 = 0 := by
  unfold roundToEven
  rw [if_neg (by omega), if_neg (by omega)]
  split <;> omega

/-- The rounding error over the common denominator `2 d`. -/
theorem abs_roundToEven_sub (n : Nat) {d : Nat} (hd : 0 < d) :
    |(roundToEven n d : ℚ) - n / d| = ((2 * (roundToEven n d * d : ℕ) - 2 * n : ℤ).natAbs : ℚ) / (2 * d) := by
  have hd' : (0 : ℚ) < d := by exact_mod_cast hd
  rw [eq_div_iff (by positivity), Nat.cast_natAbs, Int.cast_abs, ← abs_of_pos (show (0 : ℚ) < 2 * d by positivity),
    ← abs_mul]
  push_cast
  field_simp

theorem abs_roundToEven_sub_le (n : Nat) {d : Nat} (hd : 0 < d) : |(roundToEven n d : ℚ) - n / d| ≤ 1 / 2 := by
  obtain ⟨hup, hlow⟩ := roundToEven_near n d hd
  have hle : (2 * (roundToEven n d * d : ℕ) - 2 * n : ℤ).natAbs ≤ d := by omega
  rw [abs_roundToEven_sub n hd, div_le_div_iff₀ (by positivity) two_pos, mul_comm, one_mul]
  exact_mod_cast Nat.mul_le_mul_left 2 hle

/-- Half a unit from the quotient, the remainder is half the divisor. -/
theorem two_mul_mod_eq_of_half {n d : Nat} (hd : 0 < d) (h : |(roundToEven n d : ℚ) - n / d| = 1 / 2) :
    2 * (n % d) = d := by
  rw [abs_roundToEven_sub n hd, div_eq_div_iff (by positivity) two_ne_zero, mul_comm, one_mul] at h
  have herr : 2 * (2 * (roundToEven n d * d : ℕ) - 2 * n : ℤ).natAbs = 2 * d := by exact_mod_cast h
  have hn : n / d * d + n % d = n := by rw [Nat.mul_comm]; exact Nat.div_add_mod n d
  have hr : roundToEven n d = n / d ∨ roundToEven n d = n / d + 1 := by
    have := roundToEven_bounds n d
    omega
  rcases hr with hr | hr <;> rw [hr] at herr
  · omega
  · have hlt := Nat.mod_lt n hd
    rw [Nat.add_mul, Nat.one_mul] at herr
    omega

/-- No integer is nearer to the quotient, and one equally near leaves the even one chosen. -/
theorem roundToEven_nearest (n : Nat) {d : Nat} (hd : 0 < d) (k : ℤ) :
    |(roundToEven n d : ℚ) - n / d| ≤ |(k : ℚ) - n / d| ∧
      (|(k : ℚ) - n / d| = |(roundToEven n d : ℚ) - n / d| → k ≠ roundToEven n d → roundToEven n d % 2 = 0) := by
  rcases eq_or_ne k (roundToEven n d) with rfl | hk
  · simp
  have hhalf := abs_roundToEven_sub_le n hd
  have hone : (1 : ℚ) ≤ |(k : ℚ) - roundToEven n d| := by exact_mod_cast Int.one_le_abs (sub_ne_zero.mpr hk)
  have htri := abs_sub_le (k : ℚ) (n / d) (roundToEven n d)
  rw [abs_sub_comm (n / d : ℚ)] at htri
  refine ⟨by linarith, fun heq _ => roundToEven_even_of_tie (two_mul_mod_eq_of_half hd ?_)⟩
  linarith

theorem roundToEven_le {n d k : Nat} (hd : 0 < d) (h : n ≤ k * d) : roundToEven n d ≤ k := by
  obtain ⟨hup, -⟩ := roundToEven_near n d hd
  by_contra! hk
  have hmul : (k + 1) * d ≤ roundToEven n d * d := Nat.mul_le_mul_right d hk
  rw [Nat.add_mul] at hmul
  omega

/-! ### The fields of a pattern -/

theorem signBit_eq_decide (x : Channel) : signBit x = decide (2 ^ 63 ≤ x.toNat) := BitVec.msb_eq_decide x

theorem expField_eq (x : Channel) : expField x = x.toNat / 2 ^ 52 % 2 ^ 11 := by
  rw [expField, BitVec.extractLsb'_toNat, Nat.shiftRight_eq_div_pow]

theorem fracField_eq (x : Channel) : fracField x = x.toNat % 2 ^ 52 := by
  rw [fracField, BitVec.extractLsb'_toNat, Nat.shiftRight_zero]

theorem fracField_lt (x : Channel) : fracField x < 2 ^ 52 := BitVec.isLt _

theorem rne64_toNat (neg : Bool) (n d : Nat) :
    (rne64 neg n d).toNat = rneMagnitude n d + if neg then 2 ^ 63 else 0 := by
  have := rneMagnitude_le n d
  rw [rne64, BitVec.toNat_ofNat, Nat.mod_eq_of_lt]
  split <;> omega

@[simp] theorem signBit_rne64 (neg : Bool) (n d : Nat) : signBit (rne64 neg n d) = neg := by
  have := rneMagnitude_le n d
  rw [signBit_eq_decide, rne64_toNat]
  cases neg <;> simp
  omega

/-- A significand `r` placed at shift `s`: where the rounding carries to `2 ^ 53`, the sum of the fields carries into the exponent. -/
theorem magUnits_of_toNat {x : Channel} {s r : Nat} (hx : x.toNat % 2 ^ 63 = s * 2 ^ 52 + r) (hr : r ≤ 2 ^ 53)
    (hs : 0 < s → 2 ^ 52 ≤ r) : magUnits x = r * 2 ^ s := by
  have hexp : expField x = (s * 2 ^ 52 + r) / 2 ^ 52 := by rw [expField_eq, ← hx]; omega
  have hfrac : fracField x = (s * 2 ^ 52 + r) % 2 ^ 52 := by rw [fracField_eq, ← hx]; omega
  rcases lt_or_ge r (2 ^ 52) with hsub | hnorm
  · obtain rfl : s = 0 := by omega
    have hexp0 : expField x = 0 := by omega
    rw [magUnits, if_pos hexp0]
    omega
  rcases hr.lt_or_eq with hlt | rfl
  · have hexp1 : expField x = s + 1 := by omega
    have hfrac1 : fracField x = r - 2 ^ 52 := by omega
    rw [magUnits, hexp1, hfrac1, if_neg s.succ_ne_zero, Nat.add_sub_cancel' hnorm, Nat.add_sub_cancel]
  · have hexp2 : expField x = s + 2 := by omega
    have hfrac2 : fracField x = 0 := by omega
    rw [magUnits, hexp2, hfrac2, if_neg (by omega), Nat.add_sub_cancel_right (m := 1)]
    ring

/-! ### The significand that `rne64` rounds to -/

/-- The significand of the rounded value. -/
def roundedSignificand (n d : Nat) : Nat := roundToEven n (d * 2 ^ roundingShift n d)

theorem quotient_lt (n d : Nat) : n / d < 2 ^ (roundingShift n d + 53) := by
  have hlt : n / d < 2 ^ ((n / d).log2 + 1) := Nat.lt_log2_self
  exact hlt.trans_le (Nat.pow_le_pow_right two_pos (by unfold roundingShift; omega))

/-- Above the lowest binade the shift leaves a quotient of 53 bits. -/
theorem le_quotient {n d : Nat} (hs : 0 < roundingShift n d) : 2 ^ (52 + roundingShift n d) ≤ n / d := by
  have hlog : 52 + roundingShift n d = (n / d).log2 := by unfold roundingShift at *; omega
  rw [hlog]
  refine Nat.log2_self_le fun h0 => ?_
  simp [roundingShift, h0] at hs

theorem roundedSignificand_le (n : Nat) {d : Nat} (hd : 0 < d) : roundedSignificand n d ≤ 2 ^ 53 := by
  refine roundToEven_le (by positivity) ?_
  have h := (Nat.div_lt_iff_lt_mul hd).mp (quotient_lt n d)
  rw [pow_add] at h
  linarith

theorem le_roundedSignificand {n d : Nat} (hs : 0 < roundingShift n d) :
    2 ^ 52 ≤ roundedSignificand n d := by
  refine le_trans ?_ (roundToEven_bounds _ _).1
  rw [← Nat.div_div_eq_div_mul, Nat.le_div_iff_mul_le (by positivity), ← pow_add]
  exact le_quotient hs

/-- A quotient whose significand fits 53 bits at shift `e` rounds below the pattern that stands for `2 ^ 53` at that shift. -/
theorem roundedPattern_lt {n d e : Nat} (hd : 0 < d) (h : n ≤ (2 ^ 53 - 1) * 2 ^ e * d) :
    roundingShift n d * 2 ^ 52 + roundedSignificand n d < (e + 2) * 2 ^ 52 := by
  have hr := roundedSignificand_le n hd
  have hs : roundingShift n d ≤ e := by
    by_contra! hs
    have hle : n / d ≤ (2 ^ 53 - 1) * 2 ^ e := Nat.div_le_of_le_mul (by rwa [Nat.mul_comm])
    have hlt : (2 ^ 53 - 1) * 2 ^ e < 2 ^ (53 + e) := by
      rw [pow_add]
      exact Nat.mul_lt_mul_of_pos_right (by norm_num) (by positivity)
    have hpow : 2 ^ (53 + e) ≤ 2 ^ (52 + roundingShift n d) := Nat.pow_le_pow_right two_pos (by omega)
    exact absurd (le_quotient (by omega)) (hle.trans_lt (hlt.trans_le hpow)).not_ge
  rcases hs.lt_or_eq with hlt | rfl
  · omega
  · have : roundedSignificand n d ≤ 2 ^ 53 - 1 := roundToEven_le (by positivity) (by linarith)
    omega

theorem magUnits_maxFinite : magUnits maxFinite = (2 ^ 53 - 1) * 2 ^ 2045 := by decide +kernel

/-- Up to the greatest finite value the rounded pattern stays below infinity's. -/
theorem roundedPattern_lt_inf {n d : Nat} (hd : 0 < d) (h : n ≤ magUnits maxFinite * d) :
    roundingShift n d * 2 ^ 52 + roundedSignificand n d < 0x7FF0000000000000 :=
  roundedPattern_lt hd (magUnits_maxFinite ▸ h)

section Rounded
variable {n d : Nat} (neg : Bool) (hd : 0 < d) (h : n ≤ magUnits maxFinite * d)
include hd h

theorem rne64_toNat_of_le : (rne64 neg n d).toNat =
    roundingShift n d * 2 ^ 52 + roundedSignificand n d + if neg then 2 ^ 63 else 0 := by
  have := roundedPattern_lt_inf hd h
  rw [rne64_toNat, rneMagnitude, ← roundedSignificand, Nat.min_eq_left this.le]

theorem magUnits_rne64 : magUnits (rne64 neg n d) = roundedSignificand n d * 2 ^ roundingShift n d := by
  have := roundedPattern_lt_inf hd h
  refine magUnits_of_toNat ?_ (roundedSignificand_le n hd) le_roundedSignificand
  rw [rne64_toNat_of_le neg hd h]
  split <;> omega

theorem isFinite_rne64 : isFinite (rne64 neg n d) = true := by
  have := roundedPattern_lt_inf hd h
  have hne : expField (rne64 neg n d) ≠ 0x7FF := by
    rw [expField_eq, rne64_toNat_of_le neg hd h]
    split <;> omega
  simpa [isFinite] using hne

theorem getLsbD_zero_rne64 (heven : roundedSignificand n d % 2 = 0) : (rne64 neg n d).getLsbD 0 = false := by
  rw [BitVec.getLsbD, Nat.testBit_zero, rne64_toNat_of_le neg hd h, decide_eq_false_iff_not]
  split <;> omega

end Rounded

/-! ### The finite values near the rounded one -/

/-- A value that is no multiple of `2 ^ s` has an exponent below that binade. -/
theorem dvd_magUnits_or_lt (z : Channel) (s : Nat) : 2 ^ s ∣ magUnits z ∨ magUnits z < 2 ^ (52 + s) := by
  have hfrac := fracField_lt z
  rcases eq_or_ne (expField z) 0 with he | he
  · right
    rw [magUnits, if_pos he]
    exact hfrac.trans_le (Nat.pow_le_pow_right two_pos (by omega))
  rw [magUnits, if_neg he]
  rcases le_or_gt s (expField z - 1) with hle | hlt
  · exact .inl (Dvd.dvd.mul_left (pow_dvd_pow 2 hle) _)
  · right
    calc (2 ^ 52 + fracField z) * 2 ^ (expField z - 1)
        < 2 ^ 53 * 2 ^ (expField z - 1) := Nat.mul_lt_mul_of_pos_right (by omega) (by positivity)
      _ = 2 ^ (53 + (expField z - 1)) := (pow_add ..).symm
      _ ≤ 2 ^ (52 + s) := Nat.pow_le_pow_right two_pos (by omega)

/-- Every finite value is a whole number of units, read with either sign put in front. -/
theorem exists_units (neg : Bool) (z : Channel) :
    ∃ v : ℤ, v.natAbs = magUnits z ∧ real z = (if neg then -1 else 1) * ((v : ℚ) / unitsPerOne) := by
  refine ⟨if signBit z = neg then magUnits z else -magUnits z, ?_, ?_⟩
  · split <;> simp
  · rw [real]
    generalize unitsPerOne = u
    cases signBit z <;> cases neg <;> simp [neg_div]

theorem abs_mul_pow_sub (a : ℚ) (n : Nat) {d : Nat} (hd : 0 < d) (s : Nat) :
    |a * 2 ^ s - n / d| = 2 ^ s * |a - n / ((d * 2 ^ s : ℕ) : ℚ)| := by
  have hpow : (0 : ℚ) < 2 ^ s := by positivity
  have hd' : (d : ℚ) ≠ 0 := by exact_mod_cast hd.ne'
  rw [← abs_of_pos hpow, ← abs_mul, abs_of_pos hpow]
  congr 1
  push_cast
  field_simp

theorem abs_sub_lt_abs_sub_of_lt_of_le {v b q : ℚ} (hv : v < b) (hb : b ≤ q) : |b - q| < |v - q| := by
  rw [abs_of_nonpos (by linarith), abs_of_neg (by linarith)]
  linarith

/-- Below the binade of the quotient a value is farther away than the binade's least significand; within it the comparison is one
of integers. -/
theorem roundedSignificand_nearest {n d : Nat} (hd : 0 < d) {v : ℤ} {m : Nat} (hm : v.natAbs = m)
    (hv : 2 ^ roundingShift n d ∣ m ∨ m < 2 ^ (52 + roundingShift n d)) :
    |((roundedSignificand n d * 2 ^ roundingShift n d : ℕ) : ℚ) - n / d| ≤ |(v : ℚ) - n / d| ∧
      (|(v : ℚ) - n / d| = |((roundedSignificand n d * 2 ^ roundingShift n d : ℕ) : ℚ) - n / d| →
        v ≠ (roundedSignificand n d * 2 ^ roundingShift n d : ℕ) → roundedSignificand n d % 2 = 0) := by
  have hquot := le_quotient (n := n) (d := d)
  have hnear := roundToEven_nearest n (d := d * 2 ^ roundingShift n d) (by positivity)
  unfold roundedSignificand
  generalize roundingShift n d = s at *
  generalize roundToEven n (d * 2 ^ s) = r at *
  have hscale := fun a : ℚ => abs_mul_pow_sub a n hd s
  have hvalue : ((r * 2 ^ s : ℕ) : ℚ) = (r : ℚ) * 2 ^ s := by push_cast; rfl
  have hpow : (0 : ℚ) < 2 ^ s := by positivity
  rw [hvalue, hscale]
  by_cases hdvd : ((2 ^ s : ℕ) : ℤ) ∣ v
  case pos =>
    obtain ⟨k, rfl⟩ := hdvd
    obtain ⟨hle, htie⟩ := hnear k
    have hk : (((2 ^ s : ℕ) * k : ℤ) : ℚ) = (k : ℚ) * 2 ^ s := by push_cast; ring
    rw [hk, hscale]
    refine ⟨mul_le_mul_of_nonneg_left hle hpow.le, fun heq hne => htie (mul_left_cancel₀ hpow.ne' heq) ?_⟩
    rintro rfl
    exact hne (by push_cast; ring)
  case neg =>
    have hlt : m < 2 ^ (52 + s) := hv.resolve_left fun hm' => hdvd (Int.natCast_dvd.mpr (hm ▸ hm'))
    have hs : 0 < s := Nat.pos_of_ne_zero fun hs => hdvd (by simp [hs])
    have hq : (2 ^ (52 + s) : ℚ) ≤ n / d := by
      rw [le_div_iff₀ (by exact_mod_cast hd)]
      exact_mod_cast (Nat.le_div_iff_mul_le hd).mp (hquot hs)
    have hvlt : (v : ℚ) < 2 ^ (52 + s) := by
      have : v < (2 ^ (52 + s) : ℕ) := by omega
      exact_mod_cast this
    have hbinade := (hnear (2 ^ 52)).1
    have hstrict : 2 ^ s * |(r : ℚ) - n / ((d * 2 ^ s : ℕ) : ℚ)| < |(v : ℚ) - n / d| :=
      calc 2 ^ s * |(r : ℚ) - n / ((d * 2 ^ s : ℕ) : ℚ)|
          ≤ 2 ^ s * |((2 ^ 52 : ℤ) : ℚ) - n / ((d * 2 ^ s : ℕ) : ℚ)| := mul_le_mul_of_nonneg_left hbinade hpow.le
        _ = |(2 ^ (52 + s) : ℚ) - n / d| := by rw [← hscale, pow_add]; push_cast; rfl
        _ < |(v : ℚ) - n / d| := abs_sub_lt_abs_sub_of_lt_of_le hvlt hq
    exact ⟨hstrict.le, fun heq _ => absurd heq hstrict.ne'⟩

/-! ### Correct rounding -/

/-- R13: up to the greatest finite value `rne64` answers the nearest finite value, the even one at a tie. -/
theorem rne64_isNearestEven (neg : Bool) {n d : Nat} (hd : 0 < d) (h : n ≤ magUnits maxFinite * d) :
    IsNearestEven ((if neg then -1 else 1) * ((n : ℚ) / d / unitsPerOne)) (rne64 neg n d) := by
  have hu := unitsPerOne_cast_pos
  have hreal : real (rne64 neg n d) = (if neg then -1 else 1) *
      (((roundedSignificand n d * 2 ^ roundingShift n d : ℕ) : ℚ) / unitsPerOne) := by
    rw [real, signBit_rne64, magUnits_rne64 neg hd h, mul_div_assoc]
  have hdist : ∀ a b : ℚ, |(if neg then -1 else 1) * (a / unitsPerOne) - (if neg then -1 else 1) * (b / unitsPerOne)| =
      |a - b| / unitsPerOne := by
    intro a b
    have hsign : |(if neg then -1 else 1 : ℚ)| = 1 := by cases neg <;> simp
    rw [← mul_sub, ← sub_div, abs_mul, abs_div, abs_of_pos hu, hsign, one_mul]
  refine ⟨isFinite_rne64 neg hd h, fun z _ => ?_⟩
  obtain ⟨v, hv, hz⟩ := exists_units neg z
  obtain ⟨hle, htie⟩ := roundedSignificand_nearest hd hv (dvd_magUnits_or_lt z _)
  rw [hreal, hz, hdist, hdist]
  refine ⟨div_le_div_of_nonneg_right hle hu.le, fun heq hne => getLsbD_zero_rne64 neg hd h (htie ?_ ?_)⟩
  · exact (div_left_inj' hu.ne').mp heq
  · rintro rfl
    exact hne rfl

theorem real_eq_sign_mul (x : Channel) :
    real x = (if signBit x then -1 else 1) * ((magUnits x : ℚ) / unitsPerOne) :=
  mul_div_assoc ..

theorem abs_real (x : Channel) : |real x| = (magUnits x : ℚ) / unitsPerOne := by
  have hnonneg : (0 : ℚ) ≤ (magUnits x : ℚ) / unitsPerOne := by positivity
  cases hs : signBit x with
  | true => rw [real_of_signBit_true hs, abs_neg, abs_of_nonneg hnonneg]
  | false => rw [real_of_signBit_false hs, abs_of_nonneg hnonneg]

theorem real_maxFinite : real maxFinite = (magUnits maxFinite : ℚ) / unitsPerOne :=
  real_of_signBit_false (by decide)

/-- R13: `fmul64` is the correctly rounded product, while that product does not pass the greatest finite value. -/
theorem fmul64_isNearestEven {a b : Channel} (h : |real a * real b| ≤ real maxFinite) :
    IsNearestEven (real a * real b) (fmul64 a b) := by
  have hu := unitsPerOne_cast_pos
  have hle : magUnits a * magUnits b ≤ magUnits maxFinite * unitsPerOne := by
    rw [abs_mul, abs_real, abs_real, real_maxFinite, ← mul_div_assoc, div_le_div_iff_of_pos_right hu, div_mul_eq_mul_div,
      div_le_iff₀ hu] at h
    exact_mod_cast h
  have hprod : real a * real b = (if (signBit a != signBit b) then -1 else 1) *
      (((magUnits a * magUnits b : ℕ) : ℚ) / unitsPerOne / unitsPerOne) := by
    rw [real_eq_sign_mul, real_eq_sign_mul, Nat.cast_mul]
    generalize (unitsPerOne : ℚ) = u
    cases signBit a <;> cases signBit b <;> simp <;> ring
  rw [hprod]
  exact rne64_isNearestEven _ unitsPerOne_pos hle

/-! ### NaN, and the clamped value -/

theorem quantize_of_isNaN {x : Channel} (h : isNaN x = true) : quantize x = 0 := by
  rcases quantize_cases x with ⟨-, hq⟩ | ⟨hn, -⟩
  · exact hq
  · cases h.symm.trans hn

theorem quantize_of_not_isNaN {x : Channel} (h : isNaN x = false) :
    quantize x = BitVec.ofNat 8 (roundHalfUp (fmul64 (clamp01 x) scale)) := by
  rcases quantize_cases x with ⟨hn, -⟩ | ⟨-, hq⟩
  · cases h.symm.trans hn
  · exact hq

theorem isNaN_append {sign : BitVec 1} {payload : BitVec 52} (h : payload ≠ 0) :
    isNaN (sign ++ 0x7FF#11 ++ payload) = true := by
  have hexp : expField (sign ++ 0x7FF#11 ++ payload) = 0x7FF := by
    rw [expField, BitVec.extractLsb'_append_eq_of_le le_rfl, Nat.sub_self, BitVec.extractLsb'_append_eq_right]
    rfl
  have hfrac : fracField (sign ++ 0x7FF#11 ++ payload) ≠ 0 := by
    rw [fracField, BitVec.extractLsb'_append_eq_right]
    exact fun h0 => h (BitVec.eq_of_toNat_eq h0)
  simp [isNaN, hexp, hfrac]

/-- Settles O14: the three fields of the pattern are those of a NaN, whatever the sign and the payload. -/
theorem everyNaNQuantizesToZero : Obligations.EveryNaNQuantizesToZero := fun _ _ hpayload =>
  quantize_of_isNaN (isNaN_append hpayload)

theorem isNaN_eq_false_of_isFinite {x : Channel} (h : isFinite x = true) : isNaN x = false := by
  have hexp : expField x ≠ 0x7FF := by simpa [isFinite] using h
  simp [isNaN, hexp]

theorem isFinite_or_isInf {x : Channel} (h : isNaN x = false) : isFinite x = true ∨ isInf x = true := by
  rcases eq_or_ne (expField x) 0x7FF with he | he
  · exact .inr (by simpa [isInf, isNaN, he] using h)
  · exact .inl (by simp [isFinite, he])

theorem inUnitInterval_posZero : InUnitInterval posZero := by unfold InUnitInterval; decide +kernel

theorem inUnitInterval_one64 : InUnitInterval one64 := by unfold InUnitInterval; decide +kernel

/-- R58: the clamped value of anything but a NaN lies in [0, 1]. -/
theorem inUnitInterval_clamp01 {x : Channel} (h : isNaN x = false) : InUnitInterval (clamp01 x) := by
  rcases clamp01_cases x with ⟨-, hc⟩ | ⟨-, -, hc⟩ | ⟨hpos, hlt, hc⟩ <;> rw [hc]
  · exact inUnitInterval_posZero
  · exact inUnitInterval_one64
  · have hinf : isInf x ≠ true := fun hi => by simp [atLeastOne, hi] at hlt
    have hfin : isFinite x = true := (isFinite_or_isInf h).resolve_right hinf
    have hreal : 0 < real x := not_le.mp fun hle => by simp [(atMostZero_iff_real_nonpos x).mpr hle] at hpos
    refine ⟨hfin, hreal.le, le_of_not_ge fun hge => ?_⟩
    simp [(atLeastOne_iff_one_le_real hfin hreal).mpr hge] at hlt

theorem signBit_clamp01 (x : Channel) : signBit (clamp01 x) = false := by
  rcases clamp01_cases x with ⟨-, hc⟩ | ⟨-, -, hc⟩ | ⟨hpos, -, hc⟩ <;> rw [hc]
  · decide
  · decide
  · exact Bool.eq_false_iff.mpr fun hs => by simp [atMostZero, hs] at hpos

/-! ### The scaled value -/

/-- A correctly rounded value does not pass a finite value above the exact one. -/
theorem IsNearestEven.real_le {t : ℚ} {y z : Channel} (h : IsNearestEven t y) (hz : isFinite z = true) (ht : t ≤ real z) :
    real y ≤ real z := by
  obtain ⟨-, hnear⟩ := h
  have hle := (hnear z hz).1
  rw [abs_of_nonneg (sub_nonneg.mpr ht)] at hle
  linarith [le_abs_self (real y - t)]

theorem isFinite_scale : isFinite scale = true := by decide

theorem real_scale : real scale = 255 := by decide +kernel

theorem real_scale_le_maxFinite : real scale ≤ real maxFinite := by decide +kernel

section Scaled
variable {x : Channel} (h : InUnitInterval x)
include h

/-- R56: the scaled value is the correctly rounded product by 255. -/
theorem fmul64_scale_isNearestEven : IsNearestEven (real x * 255) (fmul64 x scale) := by
  obtain ⟨-, h0, h1⟩ := h
  rw [← real_scale]
  refine fmul64_isNearestEven (le_trans ?_ real_scale_le_maxFinite)
  rw [real_scale, abs_of_nonneg (by positivity)]
  linarith

theorem real_fmul64_scale_le : real (fmul64 x scale) ≤ 255 := by
  have ⟨_, _, h1⟩ := h
  rw [← real_scale]
  exact (fmul64_scale_isNearestEven h).real_le isFinite_scale (by rw [real_scale]; linarith)

end Scaled

theorem signBit_fmul64_scale {x : Channel} (h : signBit x = false) : signBit (fmul64 x scale) = false := by
  rw [fmul64, signBit_rne64, h]
  decide

theorem real_nonneg_of_signBit {x : Channel} (h : signBit x = false) : 0 ≤ real x := by
  rw [real_of_signBit_false h]
  positivity

/-- R60: the floor that half-up rounding takes of a scaled value fits a byte. -/
theorem floor_scaled_mem {x : Channel} (h : isNaN x = false) :
    0 ≤ ⌊real (fmul64 (clamp01 x) scale) + 1 / 2⌋ ∧ ⌊real (fmul64 (clamp01 x) scale) + 1 / 2⌋ ≤ 255 := by
  have hnonneg := real_nonneg_of_signBit (signBit_fmul64_scale (signBit_clamp01 x))
  have hle := real_fmul64_scale_le (inUnitInterval_clamp01 h)
  refine ⟨Int.floor_nonneg.mpr (by positivity), Int.floor_le_iff.mpr ?_⟩
  push_cast
  linarith

/-- R56: as a number, Quantize of a non-NaN value is that floor. -/
theorem quantize_toNat_eq_floor {x : Channel} (h : isNaN x = false) :
    ((quantize x).toNat : ℤ) = ⌊real (fmul64 (clamp01 x) scale) + 1 / 2⌋ := by
  have hfloor := roundHalfUp_eq_floor (signBit_fmul64_scale (signBit_clamp01 x))
  have hle := (floor_scaled_mem h).2
  rw [quantize_of_not_isNaN h, BitVec.toNat_ofNat, Nat.mod_eq_of_lt (by omega), hfloor]

/-- Settles O13: the correctly rounded product by 255 of the clamped value, and the floor of it plus a half. -/
theorem quantizeRoundsTheScaledClampedValue : Obligations.QuantizeRoundsTheScaledClampedValue := by
  refine ⟨fun x => quantize_of_isNaN, fun x hx => ⟨inUnitInterval_clamp01 hx, fmul64 (clamp01 x) scale, rfl, ?_⟩⟩
  obtain ⟨h0, h255⟩ := floor_scaled_mem hx
  exact ⟨fmul64_scale_isNearestEven (inUnitInterval_clamp01 hx), quantize_toNat_eq_floor hx, h0, h255⟩

/-! ### Corner cases of Quantize -/

theorem quantize_of_clamp01_posZero {x : Channel} (hx : isNaN x = false) (hc : clamp01 x = posZero) : quantize x = 0 := by
  rw [quantize_of_not_isNaN hx, hc]
  decide +kernel

theorem quantize_of_clamp01_one64 {x : Channel} (hx : isNaN x = false) (hc : clamp01 x = one64) : quantize x = 255 := by
  rw [quantize_of_not_isNaN hx, hc]
  decide +kernel

theorem quantize_of_real_nonpos {x : Channel} (hx : isFinite x = true) (h : real x ≤ 0) : quantize x = 0 :=
  quantize_of_clamp01_posZero (isNaN_eq_false_of_isFinite hx) (clamp01_of_real_nonpos h)

theorem quantize_of_one_le_real {x : Channel} (hx : isFinite x = true) (h : 1 ≤ real x) : quantize x = 255 :=
  quantize_of_clamp01_one64 (isNaN_eq_false_of_isFinite hx) (clamp01_of_one_le_real hx h)

/-- Where 255 times the value is at most 1/4, a binary64 value, the rounded product stays below 1/2. -/
theorem quantize_of_real_le {x : Channel} (hx : isFinite x = true) (h : real x * 255 ≤ 1 / 4) : quantize x = 0 := by
  rcases le_or_gt (real x) 0 with hneg | hpos
  · exact quantize_of_real_nonpos hx hneg
  have hnan := isNaN_eq_false_of_isFinite hx
  have hclamp : clamp01 x = x := clamp01_of_real_mem_Ioo hx hpos (by linarith)
  have hunit : InUnitInterval x := hclamp ▸ inUnitInterval_clamp01 hnan
  have hquarter : real 0x3FD0000000000000#64 = 1 / 4 := by decide +kernel
  have hle := (fmul64_scale_isNearestEven hunit).real_le (z := 0x3FD0000000000000#64) (by decide) (hquarter ▸ h)
  have hfloor : ⌊real (fmul64 (clamp01 x) scale) + 1 / 2⌋ < 1 := by
    rw [hclamp, Int.floor_lt]
    push_cast
    linarith
  have hzero := quantize_toNat_eq_floor hnan
  exact BitVec.eq_of_toNat_eq (show (quantize x).toNat = 0 by omega)

/-- A value with exponent field 0 is less than 2^52 units. -/
theorem quantize_of_expField_zero {x : Channel} (h : expField x = 0) : quantize x = 0 := by
  have hfin : isFinite x = true := by simp [isFinite, h]
  have hmag : magUnits x * (4 * 255) ≤ unitsPerOne := by
    have hfrac := fracField_lt x
    calc magUnits x * (4 * 255) ≤ 2 ^ 62 := by rw [magUnits, if_pos h]; omega
      _ ≤ unitsPerOne := by decide +kernel
  refine quantize_of_real_le hfin ?_
  have hreal : real x * (4 * 255) ≤ 1 := by
    calc real x * (4 * 255) ≤ (magUnits x : ℚ) / unitsPerOne * (4 * 255) := by
          rw [← abs_real]; gcongr; exact le_abs_self _
      _ ≤ 1 := by
          rw [div_mul_eq_mul_div, div_le_one unitsPerOne_cast_pos]
          exact_mod_cast hmag
  linarith

/-! ### QUANTIZE and DEQUANTIZE -/

/-- A command with a request in flight answers that request. -/
theorem exec_of_busy (i : Instr) {s : State} {req : Request} (h : s.hs = .busy req) :
    exec i s = .next (deliver req (respond i) s) := by
  rw [exec_eq, acceptedRequest, h]

theorem respond_quantize (x : Channel) : respond (.quantize x) = ⟨0, 0#56 ++ quantize x, 0, 0, 0⟩ := by
  rw [← zext64_byte]
  rfl

theorem respond_dequantize (k : Byte) : respond (.dequantize k) = ⟨0, dequantize k, 0, 0, 0⟩ := rfl

theorem execute_quantize (o0 o1 o2 o3 : Slot) : execute ⟨4, o0, o1, o2, o3⟩ = ⟨0, 0#56 ++ quantize o0, 0, 0, 0⟩ := by
  rw [execute_of_decodeFrame_ok (decodeFrame_quantize rfl), respond_quantize]

theorem execute_dequantize (o0 o1 o2 o3 : Slot) :
    execute ⟨5, o0, o1, o2, o3⟩ = ⟨0, dequantize (o0.extractLsb' 0 8), 0, 0, 0⟩ :=
  execute_of_decodeFrame_ok (decodeFrame_dequantize rfl)

/-- Settles O9: the command by what it delivers; the corner cases by where the value is clamped to. -/
theorem quantizeDeliversTheByte : Obligations.QuantizeDeliversTheByte := by
  refine ⟨fun x s req hbusy => ?busy, execute_quantize, fun x => quantize_of_isNaN, fun x hx => ?nonpos, fun x hx => ?one,
    fun x => quantize_of_expField_zero, by decide +kernel, by decide +kernel, by decide +kernel, by decide +kernel, ?sample⟩
  case busy =>
    rw [exec_of_busy _ hbusy, respond_quantize]
    rfl
  case nonpos =>
    rcases hx with ⟨hfin, hle⟩ | rfl
    · exact quantize_of_real_nonpos hfin hle
    · exact quantize_of_clamp01_posZero (by decide) clamp01_negInf
  case one =>
    rcases hx with ⟨hfin, hle⟩ | rfl
    · exact quantize_of_one_le_real hfin hle
    · exact quantize_of_clamp01_one64 (by decide) clamp01_posInf
  case sample =>
    have hq : quantize 0x3FDCCCCCCCCCCCCD#64 = 0x73#8 := by decide +kernel
    rw [execute_quantize, hq]
    rfl

/-- Settles O10: the command by what it delivers, and the listed bytes by evaluation. -/
theorem dequantizeDeliversTheChannel : Obligations.DequantizeDeliversTheChannel := by
  refine ⟨fun k s req hbusy => ?busy, execute_dequantize, by decide +kernel, by decide +kernel, execute_dequantize .., ?sample⟩
  case busy =>
    rw [exec_of_busy _ hbusy, respond_dequantize]
    rfl
  case sample =>
    have hk : dequantize 0x80#8 = 0x3FE0101010101010#64 := by decide +kernel
    rw [← hk]
    exact execute_dequantize ..

end Sys2Proof.Machine
end

section
/-! PROOFS. The lanes of a packed word are its bit fields (R69, R72, R74), the three packing commands by what they deliver, and O5, O6
and O7. -/

namespace Sys2Proof.Machine

/-! ### Combining lanes -/

/-- R72: shifting each byte to its lane and combining by OR places the bytes side by side. -/
theorem packLanes_eq_append (r g b a : Byte) : packLanes r g b a = a ++ r ++ g ++ b := by
  have h := BitVec.setWidth_append_append_append_eq_shiftLeft_setWidth_or (w'''' := 32) (b := a) (b' := r) (b'' := g) (b''' := b)
  rw [BitVec.setWidth_eq] at h
  exact h.symm

theorem packWord_eq_append (r g b a : Channel) :
    packWord r g b a = quantize a ++ quantize r ++ quantize g ++ quantize b :=
  packLanes_eq_append ..

/-- R70: the sign of four bytes side by side is that of the top one, and a byte is negative from 128 on. -/
theorem sint32_append_neg_iff (a r g b : Byte) : sint32 (a ++ r ++ g ++ b : Word) < 0 ↔ 128 ≤ a.toNat := by
  have hmsb : (a ++ r ++ g ++ b).msb = a.msb :=
    BitVec.msb_append.trans (BitVec.msb_append.trans BitVec.msb_append)
  rw [BitVec.msb_eq_toInt, BitVec.msb_eq_decide a, decide_eq_decide] at hmsb
  exact hmsb

/-! ### Extracting lanes -/

/-- Masking with 0xFF keeps bits 7:0 (R73). -/
theorem extractLsb'_and_0xFF (w : Word) : (w &&& 0xFF#32).extractLsb' 0 8 = w.extractLsb' 0 8 := by
  have hmask : (0xFF#32).extractLsb' 0 8 = BitVec.allOnes 8 := by decide
  rw [BitVec.extractLsb'_and, hmask, BitVec.and_allOnes]

/-- A field that the shifted word still holds whole does not see the bits shifted in. -/
theorem extractLsb'_sshiftRight (w : Word) {offset len : Nat} (h : offset + len ≤ 32) :
    (w.sshiftRight offset).extractLsb' 0 len = w.extractLsb' offset len := by
  ext i hi
  have hbit : offset + i < 32 := by omega
  have hlow : i < 32 := by omega
  simp [BitVec.getElem_sshiftRight, hbit, hlow]

/-- R74, for the lanes below the top one. -/
theorem lowerLane_eq_extractLsb' (w : Word) {offset : Nat} (h : offset + 8 ≤ 32) :
    lowerLane w offset = w.extractLsb' offset 8 := by
  rw [lowerLane, extractLsb'_and_0xFF, extractLsb'_sshiftRight w h]

/-- Shifting arithmetically by 24 leaves the top byte, sign-extended. -/
theorem sshiftRight_alphaOffset (w : Word) : w.sshiftRight alphaOffset = (w.extractLsb' 24 8).signExtend 32 := by
  ext i hi
  have hbit : 24 + i < 32 ↔ i < 8 := by omega
  simp only [BitVec.getElem_sshiftRight, BitVec.getElem_signExtend, alphaOffset, hbit]
  split
  case isTrue h => simp [hbit.mpr h]
  case isFalse => simp [BitVec.msb_eq_getLsbD_last]

/-- R74: the shifted word reads as the signed value of its top byte. -/
theorem sint32_sshiftRight_alphaOffset (w : Word) :
    sint32 (w.sshiftRight alphaOffset) = (w.extractLsb' 24 8).toInt := by
  rw [sshiftRight_alphaOffset, sint32, BitVec.toInt_signExtend_of_le (by decide)]

/-- R82: SignFix of a byte's signed value is its unsigned value. -/
theorem signFix_toInt (k : Byte) : signFix k.toInt = k.toNat := by
  have hk := k.isLt
  rw [signFix, BitVec.toInt_eq_toNat_cond]
  split <;> split <;> omega

/-- R74, for the top lane before its mask. -/
theorem alphaByte_eq_extractLsb' (w : Word) : alphaByte w = w.extractLsb' 24 8 := by
  rw [alphaByte, sint32_sshiftRight_alphaOffset, signFix_toInt]
  rw [bits32, BitVec.ofInt_natCast, BitVec.ofNat_toNat, BitVec.extractLsb'_setWidth_of_le (by decide),
    BitVec.extractLsb'_eq_self]

theorem topLane_eq_extractLsb' (w : Word) : topLane w = w.extractLsb' 24 8 := by
  rw [topLane, extractLsb'_and_0xFF, ← alphaByte, alphaByte_eq_extractLsb']

/-- R74: the extracted lanes are the word's bit fields. -/
theorem extractLanes_eq (w : Word) :
    extractLanes w = ⟨w.extractLsb' 16 8, w.extractLsb' 8 8, w.extractLsb' 0 8, w.extractLsb' 24 8⟩ := by
  rw [extractLanes, lowerLane_eq_extractLsb' w (by decide), lowerLane_eq_extractLsb' w (by decide), extractLsb'_and_0xFF,
    topLane_eq_extractLsb']
  rfl

/-! ### PACK, UNPACK and EXTRACTALPHA -/

/-- The whole next state of a command with a request in flight, from the response it computes. -/
theorem exec_eq_of_busy {i : Instr} {s : State} {req : Request} {rsp : Response} (h : s.hs = .busy req)
    (hrsp : respond i = rsp) :
    exec i s = .next { s with hs := .idle, response := some rsp, observed := s.observed ++ [⟨req, rsp⟩] } := by
  rw [exec_of_busy i h, hrsp]
  rfl

theorem respond_pack (r g b a : Channel) :
    respond (.pack r g b a) = ⟨0, 0#32 ++ (quantize a ++ quantize r ++ quantize g ++ quantize b : Word), 0, 0, 0⟩ := by
  rw [← packWord_eq_append, ← zext64_word]
  rfl

theorem respond_unpack (w : Word) :
    respond (.unpack w) = ⟨0, dequantize (w.extractLsb' 16 8), dequantize (w.extractLsb' 8 8),
      dequantize (w.extractLsb' 0 8), dequantize (w.extractLsb' 24 8)⟩ := by
  rw [respond, unpackResponse, extractLanes_eq]
  rfl

theorem respond_extractalpha (w : Word) : respond (.extractalpha w) = ⟨0, dequantize (w.extractLsb' 24 8), 0, 0, 0⟩ := by
  rw [respond, extractalphaResponse, alphaByte_eq_extractLsb']
  rfl

/-- R47: a lane of the word operand is that field of OPERAND0. -/
theorem extractLsb'_wordOperand (req : Request) {start len : Nat} (h : start + len ≤ 32) :
    (wordOperand req).extractLsb' start len = req.operand0.extractLsb' start len :=
  BitVec.extractLsb'_extractLsb'_of_le h

theorem execute_pack (o0 o1 o2 o3 : Slot) :
    execute ⟨0, o0, o1, o2, o3⟩ =
      ⟨0, 0#32 ++ (quantize o3 ++ quantize o0 ++ quantize o1 ++ quantize o2 : Word), 0, 0, 0⟩ := by
  rw [execute_of_decodeFrame_ok (decodeFrame_pack rfl), respond_pack]

theorem execute_unpack (o0 o1 o2 o3 : Slot) :
    execute ⟨1, o0, o1, o2, o3⟩ = ⟨0, dequantize (o0.extractLsb' 16 8), dequantize (o0.extractLsb' 8 8),
      dequantize (o0.extractLsb' 0 8), dequantize (o0.extractLsb' 24 8)⟩ := by
  rw [execute_of_decodeFrame_ok (decodeFrame_unpack rfl), respond_unpack]
  iterate 4 rw [extractLsb'_wordOperand _ (by decide)]

theorem execute_extractalpha (o0 o1 o2 o3 : Slot) :
    execute ⟨2, o0, o1, o2, o3⟩ = ⟨0, dequantize (o0.extractLsb' 24 8), 0, 0, 0⟩ := by
  rw [execute_of_decodeFrame_ok (decodeFrame_extractalpha rfl), respond_extractalpha, extractLsb'_wordOperand _ (by decide)]

/-! ### Sample values -/

theorem quantize_posZero : quantize posZero = 0 := quantize_of_clamp01_posZero (by decide) (by decide)

theorem quantize_one64 : quantize one64 = 255 := quantize_of_clamp01_one64 (by decide) (by decide +kernel)

theorem dequantize_zero : dequantize 0 = posZero := by decide +kernel

theorem dequantize_max : dequantize 255 = one64 := by decide +kernel

theorem dequantize_128 : dequantize 128 = 0x3FE0101010101010#64 := by decide +kernel

/-- Settles O5: the command by what it delivers; each sample word from the bytes of its channels. -/
theorem packDeliversTheFourQuantizedLanes : Obligations.PackDeliversTheFourQuantizedLanes := by
  refine ⟨fun r g b a s req hbusy => exec_eq_of_busy hbusy (respond_pack r g b a), execute_pack,
    fun _ _ _ _ => sint32_append_neg_iff .., ?ones, ?zeros, ?sample, by decide⟩
  case ones =>
    rw [execute_pack, quantize_one64]
    decide
  case zeros =>
    rw [execute_pack, quantize_posZero]
    decide
  case sample =>
    have hr : quantize 0x3FB999999999999A#64 = 0x1A#8 := by decide +kernel
    have hg : quantize 0x3FE0000000000000#64 = 0x80#8 := by decide +kernel
    have hb : quantize 0x3FF0000000000000#64 = 0xFF#8 := quantize_one64
    have ha : quantize 0x3FDCCCCCCCCCCCCD#64 = 0x73#8 := by decide +kernel
    rw [execute_pack, hr, hg, hb, ha]
    decide

/-- Settles O6: the command by what it delivers; each sample from the fields of its word. -/
theorem unpackDeliversTheFourDequantizedLanes : Obligations.UnpackDeliversTheFourDequantizedLanes := by
  refine ⟨fun w s req hbusy => exec_eq_of_busy hbusy (respond_unpack w), execute_unpack,
    ?topBit, ?ones, ?zeros, ?below, ?sample⟩
  case topBit =>
    rw [← dequantize_zero, ← dequantize_128]
    exact execute_unpack ..
  case ones =>
    rw [← dequantize_max]
    exact execute_unpack ..
  case zeros =>
    rw [← dequantize_zero]
    exact execute_unpack ..
  case below =>
    rw [← dequantize_max]
    exact execute_unpack ..
  case sample =>
    have hr : dequantize 0x1A#8 = 0x3FBA1A1A1A1A1A1A#64 := by decide +kernel
    have hb : dequantize 0xFF#8 = 0x3FF0000000000000#64 := dequantize_max
    have ha : dequantize 0x73#8 = 0x3FDCDCDCDCDCDCDD#64 := by decide +kernel
    rw [← hr, ← dequantize_128, ← hb, ← ha]
    exact execute_unpack ..

/-- Settles O7: the command by what it delivers; each sample from the top byte of its word. -/
theorem extractalphaDeliversTheDequantizedTopByte : Obligations.ExtractalphaDeliversTheDequantizedTopByte := by
  refine ⟨fun w s req hbusy => exec_eq_of_busy hbusy (respond_extractalpha w), execute_extractalpha,
    execute_extractalpha .., execute_extractalpha .., execute_extractalpha .., ?top, by decide, by decide, ?sample⟩
  case top =>
    rw [← dequantize_max]
    exact execute_extractalpha ..
  case sample =>
    have hk : dequantize 0x8C#8 = 0x3FE1919191919192#64 := by decide +kernel
    rw [← hk]
    exact execute_extractalpha ..

end Sys2Proof.Machine
end

section
/-! PROOFS. The command SIGNFIX (R82 to R84) by what it delivers, and O8. -/

namespace Sys2Proof.Machine

/-- R82, R84: the operand as a signed integer, 256 more where it is negative, in the low word of RESULT0. -/
theorem respond_signfix (v : Word) :
    respond (.signfix v) = ⟨0, 0#32 ++ bits32 (if sint32 v < 0 then sint32 v + 256 else sint32 v), 0, 0, 0⟩ := by
  rw [← signFix, ← zext64_word]
  rfl

theorem execute_signfix (o0 o1 o2 o3 : Slot) :
    execute ⟨3, o0, o1, o2, o3⟩ = ⟨0, 0#32 ++ bits32 (if sint32 (o0.extractLsb' 0 32) < 0 then
      sint32 (o0.extractLsb' 0 32) + 256 else sint32 (o0.extractLsb' 0 32)), 0, 0, 0⟩ := by
  rw [execute_of_decodeFrame_ok (decodeFrame_signfix rfl), respond_signfix, wordOperand]

/-- Settles O8: the command by what it delivers; each corner case of R84 from the integer its operand reads as. -/
theorem signfixDeliversTheCorrectedInteger : Obligations.SignfixDeliversTheCorrectedInteger :=
  ⟨fun v _ _ hbusy => exec_eq_of_busy hbusy (respond_signfix v), execute_signfix,
    execute_signfix .., execute_signfix .., execute_signfix .., execute_signfix .., execute_signfix ..,
    execute_signfix .., execute_signfix .., by decide, execute_signfix .., execute_signfix ..⟩

end Sys2Proof.Machine
end

section
/-! PROOFS. The response to an illegal command word (R88), and O27. -/

namespace Sys2Proof.Machine

theorem execute_of_illegalWord {req : Request} (h : IllegalWord req.cmd) : execute req = ⟨1, 0, 0, 0, 0⟩ := by
  rw [execute, decodeFrame_of_illegalWord h]
  rfl

/-- Settles O27: an illegal word answers ILLEGAL with zeros, and a legal one answers STATUS 0. -/
theorem statusReportsIllegalWordsOnly : Obligations.StatusReportsIllegalWordsOnly := by
  intro req
  by_cases h : IllegalWord req.cmd
  · have hrsp := execute_of_illegalWord h
    have hstatus : (execute req).status = 1 := congrArg Response.status hrsp
    exact ⟨.inr hstatus, by rw [hstatus]; decide, iff_of_true hstatus h, fun _ => hrsp⟩
  · have hstatus := execute_status_of_legal h
    have hne : (execute req).status ≠ 1 := by rw [hstatus]; decide
    exact ⟨.inl hstatus, by rw [hstatus]; decide, iff_of_false hne h, fun hone => absurd hone hne⟩

end Sys2Proof.Machine
end

section
/-! PROOFS. A frame decodes to a command exactly when it agrees with the command's encoding (R46, R47, R49), and O1. -/

namespace Sys2Proof.Machine

/-- The encoding of what was decoded from a frame agrees with the frame in the bits R47 names. -/
theorem agreeOnNamedBits_encode_of_decodeFrame_ok {req : Request} {i : Instr} (h : decodeFrame req = .ok i) :
    AgreeOnNamedBits (encode i) req := by
  have hword : (zext64 (wordOperand req)).extractLsb' 0 32 = req.operand0.extractLsb' 0 32 :=
    extractLsb'_zext64_low (by decide) _
  have hbyte : (zext64 (byteOperand req)).extractLsb' 0 8 = req.operand0.extractLsb' 0 8 :=
    extractLsb'_zext64_low (by decide) _
  have hcmd : (encode i).cmd = req.cmd := (encode_cmd i).trans (commandWord_of_decodeFrame_ok h)
  refine ⟨hcmd, ?_⟩
  rcases decodeFrame_cases req with ⟨hc, hd⟩ | ⟨hc, hd⟩ | ⟨hc, hd⟩ | ⟨hc, hd⟩ | ⟨hc, hd⟩ | ⟨hc, hd⟩ | ⟨-, hd⟩
  case inr.inr.inr.inr.inr.inr => cases hd.symm.trans h
  all_goals
    obtain rfl := Except.ok.inj (hd.symm.trans h)
    simp [encode, commandWord, hword, hbyte]

/-- Settles O1: what is decoded agrees with the frame, and a frame that agrees with an encoding decodes as the encoding does. -/
theorem decodeTakesExactlyTheEncodedFrames : Obligations.DecodeTakesExactlyTheEncodedFrames := fun _ i =>
  ⟨agreeOnNamedBits_encode_of_decodeFrame_ok,
    fun hagree => (decodeFrame_eq_of_agreeOnNamedBits hagree).symm.trans (decodeFrame_encode i)⟩

end Sys2Proof.Machine
end

section
/-! PROOFS. What one step answers, from `step_cases`: the completion of the request in flight, the invariant and the fault record
(R18, R22, R88, R89, R105, R106, R109), and O28, O29, O30, O31, O32, O36, O37, O38 and O40. -/

namespace Sys2Proof.Machine

/-! ### The step that completes a request -/

theorem hs_of_completing {s : State} {req : Request} (h : completing s = some req) : s.hs = .busy req :=
  (completing_eq_some.mp h).1

theorem step_eq_completeRequest {s : State} {req : Request} (h : completing s = some req) :
    step s = completeRequest req (useTurn s) := by
  simp [step, h]

/-- The engine's turn delivers `execute` of the request, whatever the rest of the state is. -/
theorem step_of_completing {s : State} {req : Request} (h : completing s = some req) :
    step s = .next (deliver req (execute req) { useTurn s with faulted := s.faulted || (execute req).illegal }) := by
  have hbusy : (useTurn s).hs = .busy req := (useTurn_hs s).trans (hs_of_completing h)
  rw [step_eq_completeRequest h, completeRequest_eq hbusy, useTurn_faulted]

@[simp] theorem execute_illegal_iff (req : Request) : (execute req).illegal = true ↔ IllegalWord req.cmd := by
  by_cases h : IllegalWord req.cmd
  · simp [h, execute_of_illegalWord h, Response.illegal]
  · simp [h, Response.illegal, execute_status_of_legal h]

theorem execute_illegal_of_legal {req : Request} (h : ¬ IllegalWord req.cmd) : (execute req).illegal = false :=
  Bool.eq_false_iff.mpr fun hill => h ((execute_illegal_iff req).mp hill)

/-! ### The invariant -/

/-- The invariant does not read the schedule. -/
theorem State.Inv.setSchedule {s : State} (h : s.Inv) (moves : List Move) : State.Inv { s with schedule := moves } :=
  ⟨h.observed_execute, h.response_last, h.faulted_iff⟩

theorem State.Inv.issueRequest {s : State} (h : s.Inv) (req : Request) : (issueRequest req s).Inv :=
  ⟨h.observed_execute, by simp, h.faulted_iff⟩

theorem State.Inv.resetEngine {s : State} (h : s.Inv) : (resetEngine s).Inv :=
  ⟨h.observed_execute, fun rsp hrsp => ⟨rfl, (h.response_last rsp hrsp).2⟩, h.faulted_iff⟩

/-- Delivering `execute` of a request, and recording a fault if it is illegal, keeps the invariant. -/
theorem State.Inv.deliver_execute {s u : State} (h : s.Inv) (req : Request) (hobs : u.observed = s.observed)
    (hfault : u.faulted = (s.faulted || (execute req).illegal)) : (deliver req (execute req) u).Inv where
  observed_execute t ht := by
    rw [deliver_observed, hobs, List.mem_append, List.mem_singleton] at ht
    rcases ht with ht | rfl
    · exact h.observed_execute t ht
    · rfl
  response_last rsp hrsp := by
    refine ⟨deliver_hs .., ⟨req, execute req⟩, by simp, ?_⟩
    simpa using hrsp
  faulted_iff := by
    rw [deliver_faulted, hfault, Bool.or_eq_true, h.faulted_iff, deliver_observed, hobs]
    simp [or_and_right, exists_or]

/-- Settles O37: each of the moves of `step_cases` keeps the invariant. -/
theorem everyStepKeepsTheInvariant : Obligations.EveryStepKeepsTheInvariant := by
  intro s t hinv hstep
  rcases step_cases s with ⟨req, -, h⟩ | ⟨-, -, h⟩ | ⟨req, rest, -, -, h⟩ | ⟨rest, -, -, h⟩ | ⟨rest, -, h⟩ | ⟨rest, -, h⟩ <;>
    obtain rfl := Host.Outcome.next.inj (h.symm.trans hstep)
  · exact hinv.deliver_execute req (useTurn_observed s) rfl
  · exact hinv
  · exact (hinv.setSchedule rest).issueRequest req
  · exact hinv.setSchedule rest
  · exact hinv.setSchedule rest
  · exact (hinv.setSchedule rest).resetEngine

/-- Settles O38: nothing is in flight, readable or observed at reset. -/
theorem resetStateIsIdleAndMeetsTheInvariant : Obligations.ResetStateIsIdleAndMeetsTheInvariant :=
  ⟨rfl, by simp, rfl, by simp, by simp, by simp⟩

/-! ### Faults -/

theorem raisesIllegalCommand_iff {s : State} {req : Request} (h : completing s = some req) :
    raisesIllegalCommand s = true ↔ IllegalWord req.cmd := by
  rw [← decodeFrame_eq_error_iff, raisesIllegalCommand, h]
  cases hd : decodeFrame req with
  | ok i => simp [hd]
  | error e => cases e; simp [hd]

/-- Settles O28: the completing step with the response of an illegal word; the strict view by whether that word is illegal. -/
theorem illegalCommandIsAnsweredAndTheEngineGoesIdle : Obligations.IllegalCommandIsAnsweredAndTheEngineGoesIdle := by
  refine ⟨fun s req h hill => ⟨?_, if_pos ((raisesIllegalCommand_iff h).mpr hill)⟩,
    fun s req h hlegal => if_neg fun hraise => hlegal ((raisesIllegalCommand_iff h).mp hraise),
    fun s h => by simp [strictStep, raisesIllegalCommand, h], by decide⟩
  have hfault : (execute req).illegal = true := (execute_illegal_iff req).mpr hill
  rw [step_of_completing h, hfault, Bool.or_true, execute_of_illegalWord hill, deliver, useTurn_observed]

/-- Settles O29: every case of `step_cases` answers a next state; a legal word answers STATUS 0 and sets no fault. -/
theorem noOperandMakesACommandFail : Obligations.NoOperandMakesACommandFail := by
  refine ⟨fun s => ?_, fun s req h hlegal => ⟨_, execute req, step_of_completing h, rfl, execute_status_of_legal hlegal, rfl,
    rfl, ?_⟩⟩
  · rcases step_cases s with ⟨_, -, h⟩ | ⟨-, -, h⟩ | ⟨_, _, -, -, h⟩ | ⟨_, -, -, h⟩ | ⟨_, -, h⟩ | ⟨_, -, h⟩ <;> exact ⟨_, h⟩
  · rw [deliver_faulted, execute_illegal_of_legal hlegal, Bool.or_false]

/-- A step leaves the fault record alone or completes a request and adds whether that request was illegal. -/
theorem step_faulted {s t : State} (h : step s = .next t) :
    t.faulted = s.faulted ∨ ∃ req, completing s = some req ∧ t.faulted = (s.faulted || (execute req).illegal) := by
  rcases step_cases s with ⟨req, hc, hs⟩ | ⟨-, -, hs⟩ | ⟨_, _, -, -, hs⟩ | ⟨_, -, -, hs⟩ | ⟨_, -, hs⟩ | ⟨_, -, hs⟩ <;>
    obtain rfl := Host.Outcome.next.inj (hs.symm.trans h)
  · exact .inr ⟨req, hc, rfl⟩
  iterate 5 · exact .inl rfl

/-- Settles O30: by `step_faulted`, the record only grows, and grows at an illegal word. -/
theorem theFaultRecordIsNeverCleared : Obligations.TheFaultRecordIsNeverCleared := by
  intro s t hstep
  rcases step_faulted hstep with heq | ⟨req, hc, heq⟩
  · exact ⟨heq.trans, fun hs ht => by simp [heq, hs] at ht⟩
  · refine ⟨fun hs => by simp [heq, hs], fun hs ht => ⟨req, hc, ?_⟩⟩
    simpa [heq, hs] using ht

/-! ### The request alone decides the response -/

/-- Settles O36: both states take the completing step. -/
theorem responsesDependOnTheRequestAlone : Obligations.ResponsesDependOnTheRequestAlone := fun s t req hs ht =>
  ⟨_, _, step_of_completing hs, step_of_completing ht, rfl, rfl, rfl, by simp⟩

/-- Settles O31: on the engine's turn a step completes the request, and completing what decodes to a command runs it. -/
theorem stepRunsTheDecodedCommand : Obligations.StepRunsTheDecodedCommand := by
  intro s req i hbusy hdecode
  have hexec : completing s = some req → step s = exec i (useTurn s) := fun hc => by
    rw [step_eq_completeRequest hc, completeRequest, hdecode]
  refine ⟨fun hsched => ?nothing, fun q rest hsched => ?issue, fun rest hsched => ?complete⟩
  case nothing => simpa [useTurn, hsched] using hexec (completing_eq_some.mpr ⟨hbusy, .inl hsched⟩)
  case issue => simpa [useTurn, hsched] using hexec (completing_eq_some.mpr ⟨hbusy, .inr (.inl ⟨q, rest, hsched⟩)⟩)
  case complete => simpa [useTurn, hsched] using hexec (completing_eq_some.mpr ⟨hbusy, .inr (.inr ⟨rest, hsched⟩)⟩)

/-! ### Issuing -/

theorem step_issue {s : State} {req : Request} {rest : List Move} (hidle : s.hs = .idle) (h : s.schedule = .issue req :: rest) :
    step s = .next (issueRequest req { s with schedule := rest }) := by
  have hc : completing s = none := by simp [completing, hidle]
  simp [step, hc, otherMove, h]

theorem useTurn_of_issue {s : State} {req : Request} {rest : List Move} (h : s.schedule = .issue req :: rest) : useTurn s = s := by
  simp [useTurn, h]

/-- Settles O32: from Idle the issue moves; while Busy the engine completes and its turn uses up no issue. -/
theorem issueNeedsIdleAndHoldsTheFrame : Obligations.IssueNeedsIdleAndHoldsTheFrame := by
  refine fun s q rest hsched => ⟨fun hidle => step_issue hidle hsched, fun req hbusy => ?_⟩
  have hc : completing s = some req := completing_eq_some.mpr ⟨hbusy, .inr (.inl ⟨q, rest, hsched⟩)⟩
  exact ⟨_, step_of_completing hc, rfl, by simpa [useTurn_of_issue hsched] using hsched, rfl⟩

/-- Settles O40: in Idle the accepted request is the command's own frame, which decodes to the command. -/
theorem commandInIdleIsIssueAndCompletionInOne : Obligations.CommandInIdleIsIssueAndCompletionInOne := by
  intro i s hidle
  have hrespond : execute (encode i) = respond i := execute_of_decodeFrame_ok (decodeFrame_encode i)
  have haccepted : acceptedRequest i s = encode i := by simp [acceptedRequest, hidle]
  have hexec : exec i s = .next (deliver (encode i) (respond i) s) := by rw [exec_eq, haccepted]
  refine ⟨?_, ?_⟩
  · rw [hexec, exec_of_busy (req := encode i) i rfl]
    rfl
  · rw [hexec, hrespond]
    rfl

end Sys2Proof.Machine
end

section
/-! PROOFS. Runs of several steps: reset, latencies, the order of answers, the end of a run, and engines side by side (R22, R31,
R100, R104, R105, R108), and O33, O34, O35, O39 and O44. -/

namespace Sys2Proof.Machine

/-! ### Completion after any number of waits -/

theorem completing_of_head {s : State} {req : Request} (hbusy : s.hs = .busy req)
    (hwait : s.schedule.head? ≠ some .wait) (hreset : s.schedule.head? ≠ some .reset) : completing s = some req := by
  cases hsched : s.schedule with
  | nil => simp [completing, hbusy, hsched]
  | cons m rest => cases m <;> simp_all [completing]

/-- A schedule is some waits and then nothing or another move. -/
theorem exists_eq_waits_append (moves : List Move) :
    ∃ n rest, moves = List.replicate n .wait ++ rest ∧ rest.head? ≠ some .wait := by
  induction moves with
  | nil => exact ⟨0, [], rfl, by simp⟩
  | cons m moves ih =>
    by_cases hm : m = .wait
    · obtain ⟨n, rest, rfl, hrest⟩ := ih
      exact ⟨n + 1, rest, by rw [hm, List.replicate_succ, List.cons_append], hrest⟩
    · exact ⟨0, m :: moves, rfl, by simpa using hm⟩

/-- R104: a request in flight is completed after the waits before it. -/
theorem runSteps_waits_complete {s : State} {req : Request} {n : Nat} {rest : List Move}
    (hsched : s.schedule = List.replicate n .wait ++ rest) (hc : completing { s with schedule := rest } = some req) :
    runSteps (n + 1) s = .next (deliver req (execute req)
      { useTurn { s with schedule := rest } with faulted := s.faulted || (execute req).illegal }) := by
  rw [runSteps_waits n 1 hsched, runSteps_succ 0 (step_of_completing hc), runSteps_zero]

/-- Settles O34: the waits at the head of the schedule pass, and then the engine has its turn. -/
theorem everyAcceptedRequestIsCompleted : Obligations.EveryAcceptedRequestIsCompleted := by
  intro s req hbusy hreset
  obtain ⟨n, rest, hsched, hwait⟩ := exists_eq_waits_append s.schedule
  have hrest : Move.reset ∉ rest := fun hmem => hreset (hsched ▸ List.mem_append_right _ hmem)
  have hc : completing { s with schedule := rest } = some req :=
    completing_of_head hbusy hwait fun hhead => hrest (List.mem_of_head? hhead)
  have hlen : n ≤ s.schedule.length := by simp [hsched]
  exact ⟨n + 1, _, by omega, runSteps_waits_complete hsched hc, rfl, rfl, by simp⟩

/-! ### Requests one after the other -/

/-- A request issued from Idle and answered after `n` waits, where nothing or another issue comes next. -/
theorem runSteps_issue_waits {s : State} {req : Request} {n : Nat} {rest : List Move} (hidle : s.hs = .idle)
    (hsched : s.schedule = .issue req :: (List.replicate n .wait ++ rest))
    (hrest : rest = [] ∨ ∃ q moves, rest = .issue q :: moves) :
    ∃ t, runSteps (n + 2) s = .next t ∧ t.hs = .idle ∧ t.schedule = rest ∧ t.response = some (execute req) ∧
      t.observed = s.observed ++ [⟨req, execute req⟩] ∧ t.faulted = (s.faulted || (execute req).illegal) := by
  have hc : completing { s with hs := .busy req, response := none, schedule := rest } = some req :=
    completing_eq_some.mpr ⟨rfl, hrest.imp_right .inl⟩
  refine ⟨_, (runSteps_succ (n + 1) (step_issue hidle hsched)).trans (runSteps_waits_complete rfl hc), rfl, ?_, rfl,
    by simp, rfl⟩
  rcases hrest with rfl | ⟨q, moves, rfl⟩ <;> rfl

/-- The schedule of O35: each request is issued and completed after its own number of waits. -/
def jobMoves (jobs : List (Request × Nat)) : List Move :=
  jobs.flatMap fun j => Move.issue j.1 :: List.replicate j.2 Move.wait

theorem jobMoves_cons (j : Request × Nat) (jobs : List (Request × Nat)) :
    jobMoves (j :: jobs) = .issue j.1 :: (List.replicate j.2 .wait ++ jobMoves jobs) := by
  simp [jobMoves]

theorem jobMoves_eq_nil_or_issue (jobs : List (Request × Nat)) :
    jobMoves jobs = [] ∨ ∃ q moves, jobMoves jobs = .issue q :: moves := by
  cases jobs with
  | nil => exact .inl rfl
  | cons j jobs => exact .inr ⟨_, _, jobMoves_cons j jobs⟩

/-- Settles O35: by induction on the requests, one of them after the other. -/
theorem requestsAreAnsweredInOrderWhateverTheLatencies : Obligations.RequestsAreAnsweredInOrderWhateverTheLatencies := by
  intro s jobs hidle hsched
  induction jobs generalizing s with
  | nil => exact ⟨s, rfl, hidle, hsched, by simp, by simp⟩
  | cons j jobs ih =>
    obtain ⟨t, hrun, htidle, htsched, -, htobs, htfault⟩ :=
      runSteps_issue_waits hidle (hsched.trans (jobMoves_cons j jobs)) (jobMoves_eq_nil_or_issue jobs)
    obtain ⟨u, hrun', huidle, husched, huobs, hufault⟩ := ih t htidle htsched
    refine ⟨u, ?_, huidle, husched, by simp [huobs, htobs], by simp [hufault, htfault, Bool.or_assoc]⟩
    rw [List.map_cons, List.sum_cons, runSteps_add _ hrun, hrun']

/-! ### Reset -/

theorem step_reset {s : State} {rest : List Move} (h : s.schedule = .reset :: rest) :
    step s = .next (resetEngine { s with schedule := rest }) := by
  have hc : completing s = none := by cases hs : s.hs <;> simp [completing, hs, h]
  simp [step, hc, otherMove, h]

/-- R100: a request discarded after `n` waits leaves no trace but the response its issue took away. -/
theorem runSteps_issue_waits_reset {s : State} {req : Request} {n : Nat} {rest : List Move} (hidle : s.hs = .idle)
    (hsched : s.schedule = .issue req :: (List.replicate n .wait ++ .reset :: rest)) :
    runSteps (n + 2) s = .next { s with response := none, schedule := rest } := by
  calc runSteps (n + 1 + 1) s = runSteps (n + 1) (issueRequest req { s with schedule := _ }) :=
        runSteps_succ (n + 1) (step_issue hidle hsched)
    _ = runSteps 1 { issueRequest req s with schedule := .reset :: rest } := runSteps_waits n 1 rfl
    _ = .next (resetEngine { issueRequest req s with schedule := rest }) := runSteps_succ 0 (step_reset rfl)
    _ = .next { s with response := none, schedule := rest } := by rw [hidle]; rfl

/-- Settles O33: the reset uses up its move and leaves Idle, from where the request is issued again. -/
theorem resetDiscardsTheRequestInFlight : Obligations.ResetDiscardsTheRequestInFlight := by
  refine ⟨fun s rest hsched => ⟨step_reset hsched, fun hidle => ?idle⟩, fun s req n m hidle hsched => ?again⟩
  case idle => rw [step_reset hsched, resetEngine, ← hidle]
  case again =>
    have hdiscard := runSteps_issue_waits_reset hidle hsched
    obtain ⟨t, hrun, htidle, htsched, htrsp, htobs, -⟩ :=
      runSteps_issue_waits (s := { s with response := none, schedule := .issue req :: List.replicate m .wait })
        (req := req) (n := m) (rest := []) hidle (by simp) (.inl rfl)
    refine ⟨t, ?_, htidle, htsched, htobs, htrsp⟩
    rw [show n + m + 4 = (n + 2) + (m + 2) by omega, runSteps_add _ hdiscard, hrun]

/-! ### The end of a run -/

theorem finished_iff (s : State) : s.finished = true ↔ s.hs = .idle ∧ ∀ req, Move.issue req ∉ s.schedule := by
  have hany : s.schedule.any Move.isIssue = true ↔ ∃ req, Move.issue req ∈ s.schedule := by
    rw [List.any_eq_true]
    refine ⟨fun ⟨m, hm, hissue⟩ => ?_, fun ⟨req, hm⟩ => ⟨_, hm, rfl⟩⟩
    cases m with
    | issue req => exact ⟨req, hm⟩
    | _ => cases hissue
  rw [State.finished, Bool.and_eq_true, Bool.not_eq_true', ← Bool.not_eq_true, hany, beq_iff_eq, not_exists]

/-- An ended run has only waits, completions and resets left, and none of them does anything in Idle. -/
theorem step_of_finished {s t : State} (hfin : s.finished = true) (hstep : step s = .next t) :
    t.finished = true ∧ t.observed = s.observed ∧ t.faulted = s.faulted := by
  obtain ⟨hidle, hissue⟩ := (finished_iff s).mp hfin
  have hrest : ∀ {m rest}, s.schedule = m :: rest → ∀ req, Move.issue req ∉ rest := fun hsched req hmem =>
    hissue req (hsched ▸ List.mem_cons_of_mem _ hmem)
  simp only [finished_iff]
  rcases step_cases s with ⟨req, hc, -⟩ | ⟨-, -, h⟩ | ⟨req, rest, -, hsched, -⟩ | ⟨rest, -, hsched, h⟩ | ⟨rest, hsched, h⟩ |
    ⟨rest, hsched, h⟩
  · cases hidle.symm.trans (hs_of_completing hc)
  · obtain rfl := Host.Outcome.next.inj (h.symm.trans hstep)
    exact ⟨⟨hidle, hissue⟩, rfl, rfl⟩
  · exact absurd (hsched ▸ List.mem_cons_self) (hissue req)
  · obtain rfl := Host.Outcome.next.inj (h.symm.trans hstep)
    exact ⟨⟨hidle, hrest hsched⟩, rfl, rfl⟩
  · obtain rfl := Host.Outcome.next.inj (h.symm.trans hstep)
    exact ⟨⟨hidle, hrest hsched⟩, rfl, rfl⟩
  · obtain rfl := Host.Outcome.next.inj (h.symm.trans hstep)
    exact ⟨⟨rfl, hrest hsched⟩, rfl, rfl⟩

/-- How many steps a run may still take: two for each move, an issue and its completion, and one for a request in flight. -/
def stepsLeft (s : State) : Nat := 2 * s.schedule.length + if s.hs = .idle then 0 else 1

/-- Before the end of a run every step brings the end nearer. -/
theorem exists_step_stepsLeft_lt {s : State} (h : s.finished ≠ true) : ∃ t, step s = .next t ∧ stepsLeft t < stepsLeft s := by
  rcases step_cases s with ⟨req, hc, h⟩ | ⟨hc, hsched, -⟩ | ⟨req, rest, hidle, hsched, h⟩ | ⟨rest, hidle, hsched, h⟩ |
    ⟨rest, hsched, h⟩ | ⟨rest, hsched, h⟩
  · refine ⟨_, h, ?_⟩
    have hlen : (useTurn s).schedule.length ≤ s.schedule.length := by
      unfold useTurn
      split <;> simp_all
    simp [stepsLeft, hs_of_completing hc]
    omega
  · refine absurd ((finished_iff s).mpr ⟨?_, by simp [hsched]⟩) h
    cases hs : s.hs with
    | idle => rfl
    | busy req => simp [completing, hs, hsched] at hc
  · exact ⟨_, h, by simp [stepsLeft, hidle, hsched]; omega⟩
  · exact ⟨_, h, by simp [stepsLeft, hidle, hsched]⟩
  · exact ⟨_, h, by simp [stepsLeft, hsched]⟩
  · exact ⟨_, h, by simp [stepsLeft, hsched]; omega⟩

theorem exists_runSteps_finished (s : State) : ∃ k t, k ≤ stepsLeft s ∧ runSteps k s = .next t ∧ t.finished = true := by
  induction hn : stepsLeft s using Nat.strong_induction_on generalizing s with
  | _ n ih =>
    by_cases hfin : s.finished = true
    · exact ⟨0, s, by omega, rfl, hfin⟩
    · obtain ⟨t, hstep, hlt⟩ := exists_step_stepsLeft_lt hfin
      obtain ⟨k, u, hk, hrun, hufin⟩ := ih (stepsLeft t) (hn ▸ hlt) t rfl
      exact ⟨k + 1, u, by omega, (runSteps_succ k hstep).trans hrun, hufin⟩

/-- Settles O44: `finished` unfolded, kept by every step, and reached because `stepsLeft` goes down. -/
theorem runsEndAndThenObserveNothingMore : Obligations.RunsEndAndThenObserveNothingMore := by
  refine ⟨finished_iff, fun _ _ => step_of_finished, fun s => ?_⟩
  obtain ⟨k, t, hk, hrun, hfin⟩ := exists_runSteps_finished s
  refine ⟨k, t, hk.trans ?_, hrun, hfin⟩
  unfold stepsLeft
  split <;> omega

/-! ### Engines side by side -/

/-- A step of one engine of the array is that engine's own step, and leaves every other one alone. -/
theorem stepInstance_spec (k : Nat) (a : EngineArray) : ∃ a', stepInstance k a = .next a' ∧
    a'.engines.length = a.engines.length ∧
    ∀ (j : Nat) (s : State), a.engines[j]? = some s →
      ∃ t, runSteps (if k = j then 1 else 0) s = .next t ∧ a'.engines[j]? = some t := by
  cases hk : a.engines[k]? with
  | none =>
    refine ⟨a, by simp [stepInstance, hk], rfl, fun j s hj => ⟨s, ?_, hj⟩⟩
    rw [if_neg (by rintro rfl; simp [hk] at hj), runSteps_zero]
  | some u =>
    obtain ⟨v, hv⟩ := noOperandMakesACommandFail.1 u
    refine ⟨⟨a.engines.set k v⟩, by simp [stepInstance, hk, hv], by simp, fun j s hj => ?_⟩
    by_cases hkj : k = j
    · subst hkj
      obtain rfl : u = s := Option.some.inj (hk.symm.trans hj)
      obtain ⟨hlt, -⟩ := List.getElem?_eq_some_iff.mp hk
      exact ⟨v, by rw [if_pos rfl, runSteps_succ 0 hv, runSteps_zero], by simp [hlt]⟩
    · exact ⟨s, by rw [if_neg hkj, runSteps_zero], by simp [hkj, hj]⟩

/-- Settles O39: by induction on the order of the steps. -/
theorem engineArrayKeepsInstancesApart : Obligations.EngineArrayKeepsInstancesApart := by
  intro order a
  induction order generalizing a with
  | nil => exact ⟨a, rfl, rfl, fun k s hk => ⟨s, rfl, hk⟩⟩
  | cons k order ih =>
    obtain ⟨b, hstep, hblen, hb⟩ := stepInstance_spec k a
    obtain ⟨c, hrun, hclen, hc⟩ := ih b
    refine ⟨c, by simp [runInstances, hstep, hrun], hclen.trans hblen, fun j s hj => ?_⟩
    obtain ⟨t, hst, hbj⟩ := hb j s hj
    obtain ⟨u, htu, hcj⟩ := hc j t hbj
    refine ⟨u, ?_, hcj⟩
    have hcount : (k :: order).count j = (if k = j then 1 else 0) + order.count j := by
      simp [List.count_cons, Nat.add_comm]
    rw [hcount, runSteps_add _ hst, htu]

end Sys2Proof.Machine
end

section
/-! PROOFS. Packed words and their lanes (R34, R69 to R75, R79), SignFix (R82 to R84), and O19, O20, O21, O22 and O26. -/

namespace Sys2Proof.Machine

/-! ### SignFix -/

/-- R83: adding 256 to a negative 32-bit integer cannot pass the range. -/
theorem sint32_bits32_signFix (v : Word) : sint32 (bits32 (signFix (sint32 v))) = signFix (sint32 v) := by
  have hlow : -2147483648 ≤ sint32 v := BitVec.le_toInt v
  have hhigh : sint32 v < 2147483648 := BitVec.toInt_lt
  refine BitVec.toInt_ofInt_eq_self (by decide) ?_ ?_ <;> unfold signFix <;> split <;> omega

/-- The low word of SIGNFIX's RESULT0 is the corrected integer's pattern. -/
theorem signfixResponse_result0 (v : Word) : (signfixResponse v).result0 = zext64 (bits32 (signFix (sint32 v))) := rfl

/-- An integer of the domain is the signed value of its low byte. -/
theorem sint32_eq_toInt_lowByte {v : Word} (hlow : -128 ≤ sint32 v) (hhigh : sint32 v ≤ 127) :
    sint32 v = (v.extractLsb' 0 8).toInt := by
  have hv := v.isLt
  have hbyte : (v.extractLsb' 0 8).toNat = v.toNat % 256 := by simp
  rw [sint32, BitVec.toInt_eq_toNat_cond] at hlow hhigh ⊢
  rw [BitVec.toInt_eq_toNat_cond, hbyte]
  split at hlow <;> split <;> omega

/-- R82: on its domain SignFix is undone by reading the byte as a signed value. -/
theorem signFix_eq_toNat_iff {v : Int} (hlow : -128 ≤ v) (hhigh : v ≤ 127) (k : Byte) :
    signFix v = k.toNat ↔ v = k.toInt := by
  have hk := k.isLt
  rw [signFix, BitVec.toInt_eq_toNat_cond]
  split <;> split <;> omega

/-- Settles O19: no overflow by the range of `sint32`; on the domain the operand is the signed value of its low byte. -/
theorem signFixNeverOverflowsAndIsABijectionOnItsDomain : Obligations.SignFixNeverOverflowsAndIsABijectionOnItsDomain := by
  refine ⟨fun v => ?value, fun v hlow hhigh => ?lowByte, fun k => ?bijection⟩
  case value => rw [signfixResponse_result0, extractLsb'_zext64_low (by decide), sint32_bits32_signFix, signFix]
  case lowByte =>
    rw [signfixResponse_result0, sint32_eq_toInt_lowByte hlow hhigh, signFix_toInt, bits32, BitVec.ofInt_natCast,
      BitVec.ofNat_toNat, BitVec.toNat_setWidth_of_le (by decide), BitVec.toNat_setWidth_of_le (by decide)]
  case bijection =>
    have hlow : -128 ≤ k.toInt := BitVec.le_toInt k
    have hhigh : k.toInt ≤ 127 := Int.le_of_lt_add_one BitVec.toInt_lt
    exact ⟨k.toInt, ⟨hlow, hhigh, signFix_toInt k⟩, fun v ⟨h1, h2, h3⟩ => (signFix_eq_toNat_iff h1 h2 k).mp h3⟩

/-! ### Lanes -/

/-- Settles O20: the shifted word reads as the signed value of its top byte, which SignFix turns into its unsigned value. -/
theorem extractedLanesAreTheWordsBitFields : Obligations.ExtractedLanesAreTheWordsBitFields := by
  intro w
  have hshift : sint32 (w.sshiftRight 24) = (w.extractLsb' 24 8).toInt := sint32_sshiftRight_alphaOffset w
  have hbyte := (w.extractLsb' 24 8).isLt
  rw [hshift, signFix_toInt]
  exact ⟨BitVec.le_toInt _, Int.le_of_lt_add_one BitVec.toInt_lt, by omega, by omega, extractLanes_eq w,
    alphaByte_eq_extractLsb' w⟩

/-- R72, R74: the lanes of four packed bytes are those bytes. -/
theorem extractLanes_packLanes (r g b a : Byte) : extractLanes (packLanes r g b a) = ⟨r, g, b, a⟩ := by
  have hb : (a ++ r ++ g ++ b : Word).extractLsb' 0 8 = b := BitVec.extractLsb'_append_eq_right
  have hg : (a ++ r ++ g ++ b : Word).extractLsb' 8 8 = g :=
    (BitVec.extractLsb'_append_eq_of_le le_rfl).trans BitVec.extractLsb'_append_eq_right
  have hr : (a ++ r ++ g ++ b : Word).extractLsb' 16 8 = r :=
    (BitVec.extractLsb'_append_eq_of_le (by decide)).trans <|
      (BitVec.extractLsb'_append_eq_of_le le_rfl).trans BitVec.extractLsb'_append_eq_right
  have ha : (a ++ r ++ g ++ b : Word).extractLsb' 24 8 = a :=
    (BitVec.extractLsb'_append_eq_of_le (by decide)).trans <|
      (BitVec.extractLsb'_append_eq_of_le (by decide)).trans <|
        (BitVec.extractLsb'_append_eq_of_le le_rfl).trans BitVec.extractLsb'_eq_self
  rw [extractLanes_eq, packLanes_eq_append, hr, hg, hb, ha]

theorem unpackResponse_eq (w : Word) :
    unpackResponse w = ⟨0, dequantize (w.extractLsb' 16 8), dequantize (w.extractLsb' 8 8),
      dequantize (w.extractLsb' 0 8), dequantize (w.extractLsb' 24 8)⟩ :=
  respond_unpack w

/-- Settles O21: packed lanes come apart again, and each result of UNPACK is Dequantize of one field. -/
theorem lanesStayApart : Obligations.LanesStayApart := by
  refine ⟨fun _ _ _ _ => extractLanes_packLanes .., fun x o1 o2 o3 => by rw [execute_quantize], fun v w => ?_, fun w => ?_⟩
  · simp only [unpackResponse_eq]
    exact ⟨congrArg dequantize, congrArg dequantize, congrArg dequantize, congrArg dequantize⟩
  · rw [unpackResponse_eq]
    exact ⟨rfl, rfl, rfl, rfl⟩

/-- Settles O22: both commands dequantize the top byte of one and the same word. -/
theorem extractalphaEqualsUnpacksAlpha : Obligations.ExtractalphaEqualsUnpacksAlpha := by
  intro p q hp hq hagree
  have hword : wordOperand p = wordOperand q := hagree
  rw [execute_of_decodeFrame_ok (decodeFrame_extractalpha hp), execute_of_decodeFrame_ok (decodeFrame_unpack hq), hword,
    respond_extractalpha, respond_unpack]
  exact ⟨rfl, rfl, rfl, rfl⟩

/-- Settles O26: the stored bytes are the lanes in either order, and the byte-order parameter is one of the two orders. -/
theorem hostStoresAlphaOrBlueFirst : Obligations.HostStoresAlphaOrBlueFirst := by
  refine ⟨fun w => ?_, ?_⟩
  · simp only [hostBytes, extractLanes_eq, and_self]
  · unfold hostImage
    cases Config.hostByteOrder with
    | bigEndian => exact .inl fun _ => rfl
    | littleEndian => exact .inr fun _ => rfl

end Sys2Proof.Machine
end

section
/-! PROOFS. Correct rounding of quotients, the order of numbers and of their patterns, Quantize as a monotone function, and products and
quotients by 255.0 with the powers of two taken out (R12, R13, R56 to R62), and O11 and O15. -/

namespace Sys2Proof.Machine

/-! ### Correct rounding -/

theorem le_magUnits_maxFinite_mul {n d : Nat} (hd : 0 < d) (h : (n : ℚ) / d / unitsPerOne ≤ real maxFinite) :
    n ≤ magUnits maxFinite * d := by
  rw [real_maxFinite, div_le_div_iff_of_pos_right unitsPerOne_cast_pos, div_le_iff₀ (by exact_mod_cast hd)] at h
  exact_mod_cast h

theorem magUnits_pos_of_real_ne_zero {x : Channel} (h : real x ≠ 0) : 0 < magUnits x :=
  Nat.pos_of_ne_zero fun h0 => h (by rw [real, h0, Nat.cast_zero, mul_zero, zero_div])

/-- R13: `fdiv64` is the correctly rounded quotient, while that quotient does not pass the greatest finite value. -/
theorem fdiv64_isNearestEven {a b : Channel} (hb : real b ≠ 0) (h : |real a / real b| ≤ real maxFinite) :
    IsNearestEven (real a / real b) (fdiv64 a b) := by
  have hpos := magUnits_pos_of_real_ne_zero hb
  have hu := unitsPerOne_cast_pos
  have hcancel : ((magUnits a * unitsPerOne : ℕ) : ℚ) / magUnits b / unitsPerOne =
      (magUnits a : ℚ) / unitsPerOne / ((magUnits b : ℚ) / unitsPerOne) := by
    have hb' : (magUnits b : ℚ) ≠ 0 := by exact_mod_cast hpos.ne'
    rw [Nat.cast_mul]
    generalize (unitsPerOne : ℚ) = u at hu
    field_simp
  have hquot : real a / real b = (if (signBit a != signBit b) then -1 else 1) *
      (((magUnits a * unitsPerOne : ℕ) : ℚ) / magUnits b / unitsPerOne) := by
    rw [hcancel, real_eq_sign_mul a, real_eq_sign_mul b]
    generalize (unitsPerOne : ℚ) = u
    cases signBit a <;> cases signBit b <;> simp [neg_div, div_neg]
  rw [hquot]
  refine rne64_isNearestEven _ hpos (le_magUnits_maxFinite_mul hpos ?_)
  rw [abs_div, abs_real a, abs_real b] at h
  exact hcancel.le.trans h

/-- Settles O11: `rne64_isNearestEven` and its two uses. -/
theorem roundingIsNearestTiesToEven : Obligations.RoundingIsNearestTiesToEven :=
  ⟨fun neg _ _ hd h => rne64_isNearestEven neg hd (le_magUnits_maxFinite_mul hd h), fun _ _ _ _ => fmul64_isNearestEven,
    fun _ _ _ _ => fdiv64_isNearestEven, rfl, real_scale⟩

/-! ### Rounding keeps order -/

/-- Of two values the one nearer to `t` lies on the same side of their midpoint as `t`. -/
theorem add_le_two_mul_of_abs_sub_le {a b t : ℚ} (hlt : b < a) (h : |a - t| ≤ |b - t|) : a + b ≤ 2 * t := by
  have hsq := sq_le_sq.mpr h
  nlinarith

theorem two_mul_le_add_of_abs_sub_le {a b t : ℚ} (hlt : b < a) (h : |b - t| ≤ |a - t|) : 2 * t ≤ a + b := by
  have hsq := sq_le_sq.mpr h
  nlinarith

/-- The correctly rounded values of two numbers are in the numbers' order. -/
theorem IsNearestEven.real_le_real {t t' : ℚ} {y y' : Channel} (h : IsNearestEven t y) (h' : IsNearestEven t' y')
    (hlt : t < t') : real y ≤ real y' := by
  obtain ⟨hfin, hnear⟩ := h
  obtain ⟨hfin', hnear'⟩ := h'
  by_contra! hgt
  have hmid := add_le_two_mul_of_abs_sub_le hgt (hnear y' hfin').1
  have hmid' := two_mul_le_add_of_abs_sub_le hgt (hnear' y hfin).1
  linarith

/-- A correctly rounded value does not fall below a finite value below the exact one. -/
theorem IsNearestEven.le_real {t : ℚ} {y z : Channel} (h : IsNearestEven t y) (hz : isFinite z = true) (ht : real z ≤ t) :
    real z ≤ real y := by
  obtain ⟨-, hnear⟩ := h
  have hle := (hnear z hz).1
  rw [abs_of_nonpos (sub_nonpos.mpr ht)] at hle
  linarith [neg_abs_le (real y - t)]

theorem magUnits_eq_of_real_eq {x y : Channel} (h : real x = real y) : magUnits x = magUnits y := by
  have habs := congrArg abs h
  rw [abs_real, abs_real, div_left_inj' unitsPerOne_cast_pos.ne'] at habs
  exact_mod_cast habs

/-- Scaling by 255.0 keeps the order of values in [0, 1]; equal values have equal magnitudes and so the same product. -/
theorem real_fmul64_scale_mono {x y : Channel} (hx : InUnitInterval x) (hy : InUnitInterval y) (hsx : signBit x = false)
    (hsy : signBit y = false) (h : real x ≤ real y) : real (fmul64 x scale) ≤ real (fmul64 y scale) := by
  rcases h.lt_or_eq with hlt | heq
  · exact (fmul64_scale_isNearestEven hx).real_le_real (fmul64_scale_isNearestEven hy) (by linarith)
  · rw [fmul64, fmul64, hsx, hsy, magUnits_eq_of_real_eq heq]

/-! ### Clamping keeps order -/

theorem real_posZero : real posZero = 0 := by decide +kernel

theorem real_one64 : real one64 = 1 := by decide +kernel

/-- R14: `clamp01` is the clamping of real numbers. -/
theorem real_clamp01_of_isFinite {x : Channel} (h : isFinite x = true) : real (clamp01 x) = max 0 (min 1 (real x)) := by
  rcases le_or_gt (real x) 0 with hneg | hpos
  · rw [clamp01_of_real_nonpos hneg, real_posZero, max_eq_left ((min_le_right _ _).trans hneg)]
  rcases le_or_gt 1 (real x) with hone | hlt
  · rw [clamp01_of_one_le_real h hone, real_one64, min_eq_left hone, max_eq_right zero_le_one]
  · rw [clamp01_of_real_mem_Ioo h hpos hlt, min_eq_right hlt.le, max_eq_right hpos.le]

theorem clamp01_of_signBit {x : Channel} (h : signBit x = true) : clamp01 x = posZero :=
  clamp01_of_atMostZero (by simp [atMostZero, h])

theorem clamp01_of_isInf_of_signBit_false {x : Channel} (hinf : isInf x = true) (h : signBit x = false) : clamp01 x = one64 := by
  have hexp : expField x = 0x7FF := by simp_all [isInf]
  have hmag : magUnits x ≠ 0 := by
    rw [magUnits, hexp, if_neg (by decide)]
    positivity
  exact clamp01_of_atLeastOne (by simp [atMostZero, h, hmag]) (by simp [atLeastOne, hinf])

theorem real_clamp01_mono {x y : Channel} (hx : isNaN x = false) (hy : isNaN y = false) (h : NumLe x y) :
    real (clamp01 x) ≤ real (clamp01 y) := by
  rcases h with ⟨-, hneg⟩ | ⟨hinf, hpos⟩ | ⟨hfx, hfy, hle⟩
  · obtain ⟨-, hnonneg, -⟩ := inUnitInterval_clamp01 hy
    rwa [clamp01_of_signBit hneg, real_posZero]
  · obtain ⟨-, -, hle⟩ := inUnitInterval_clamp01 hx
    rwa [clamp01_of_isInf_of_signBit_false hinf hpos, real_one64]
  · rw [real_clamp01_of_isFinite hfx, real_clamp01_of_isFinite hfy]
    gcongr

/-- Settles O15: clamping, scaling, and the floor each keep the order. -/
theorem quantizeNeverDecreases : Obligations.QuantizeNeverDecreases := by
  intro x y hx hy h
  have hscaled := real_fmul64_scale_mono (inUnitInterval_clamp01 hx) (inUnitInterval_clamp01 hy) (signBit_clamp01 x)
    (signBit_clamp01 y) (real_clamp01_mono hx hy h)
  have hfloor : ⌊real (fmul64 (clamp01 x) scale) + 1 / 2⌋ ≤ ⌊real (fmul64 (clamp01 y) scale) + 1 / 2⌋ := by gcongr
  rw [← quantize_toNat_eq_floor hx, ← quantize_toNat_eq_floor hy] at hfloor
  exact_mod_cast hfloor

theorem quantize_mono_of_isFinite {x y : Channel} (hx : isFinite x = true) (hy : isFinite y = true) (h : real x ≤ real y) :
    (quantize x).toNat ≤ (quantize y).toNat :=
  quantizeNeverDecreases x y (isNaN_eq_false_of_isFinite hx) (isNaN_eq_false_of_isFinite hy) (.inr (.inr ⟨hx, hy, h⟩))

/-! ### The order of patterns -/

theorem magUnits_lt (x : Channel) : magUnits x < 2 ^ (52 + expField x) := by
  have hfrac := fracField_lt x
  unfold magUnits
  split
  case isTrue he => rwa [he]
  case isFalse he =>
    calc (2 ^ 52 + fracField x) * 2 ^ (expField x - 1)
        < 2 ^ 53 * 2 ^ (expField x - 1) := Nat.mul_lt_mul_of_pos_right (by omega) (by positivity)
      _ = 2 ^ (52 + expField x) := by rw [← pow_add]; congr 1; omega

theorem le_magUnits {x : Channel} {e : Nat} (h : e < expField x) : 2 ^ (52 + e) ≤ magUnits x := by
  rw [magUnits, if_neg (by omega), pow_add]
  exact Nat.mul_le_mul (Nat.le_add_right _ _) (Nat.pow_le_pow_right two_pos (by omega))

/-- With the sign bit clear, a lower pattern has a lower magnitude. -/
theorem magUnits_lt_of_toNat_lt {x y : Channel} (hsy : signBit y = false) (h : x.toNat < y.toNat) : magUnits x < magUnits y := by
  have hy : y.toNat < 2 ^ 63 := by simpa [signBit_eq_decide] using hsy
  have hexp : expField x ≤ expField y := by rw [expField_eq, expField_eq]; omega
  rcases hexp.lt_or_eq with hlt | heq
  · exact (magUnits_lt x).trans_le (le_magUnits hlt)
  · have hfrac : fracField x < fracField y := by
      rw [expField_eq, expField_eq] at heq
      rw [fracField_eq, fracField_eq]
      omega
    rw [magUnits, magUnits, heq]
    split
    · exact hfrac
    · exact Nat.mul_lt_mul_of_pos_right (by omega) (by positivity)

/-- With the sign bits clear, the order of the numbers is the order of the patterns. -/
theorem real_le_real_iff {x y : Channel} (hsx : signBit x = false) (hsy : signBit y = false) :
    real x ≤ real y ↔ x.toNat ≤ y.toNat := by
  rw [real_of_signBit_false hsx, real_of_signBit_false hsy, div_le_div_iff_of_pos_right unitsPerOne_cast_pos, Nat.cast_le]
  refine ⟨fun h => not_lt.mp fun hlt => h.not_gt (magUnits_lt_of_toNat_lt hsx hlt), fun h => ?_⟩
  rcases h.lt_or_eq with hlt | heq
  · exact (magUnits_lt_of_toNat_lt hsy hlt).le
  · rw [BitVec.eq_of_toNat_eq heq]

theorem toNat_sub_one {z : Channel} (hz : z ≠ 0) : (z - 1).toNat = z.toNat - 1 := by
  bv_omega

/-- A value below another one with its sign bit clear is at most the value of the pattern before that. -/
theorem real_le_real_sub_one {x z : Channel} (hz : z ≠ 0) (hsz : signBit z = false) (h : real x < real z) :
    real x ≤ real (z - 1) := by
  have hpred := toNat_sub_one hz
  have hspred : signBit (z - 1) = false := by
    rw [signBit_eq_decide, decide_eq_false_iff_not] at hsz ⊢
    omega
  cases hsx : signBit x with
  | true => exact (real_nonpos_of_signBit hsx).trans (real_nonneg_of_signBit hspred)
  | false =>
    have hlt := not_le.mp fun hle => h.not_ge ((real_le_real_iff hsz hsx).mpr hle)
    exact (real_le_real_iff hsx hspred).mpr (by omega)

/-! ### Rounding a scaled quotient -/

/-- The pattern that `rneMagnitude` cuts off at infinity's. -/
def roundedPattern (n d : Nat) : Nat := roundingShift n d * 2 ^ 52 + roundedSignificand n d

theorem rneMagnitude_eq_min (n d : Nat) : rneMagnitude n d = min (roundedPattern n d) 0x7FF0000000000000 := rfl

theorem roundToEven_mul_right (n d : Nat) {c : Nat} (hc : 0 < c) : roundToEven (n * c) (d * c) = roundToEven n d := by
  have hmod : n * c % (d * c) = n % d * c := Nat.mul_mod_mul_right c n d
  have hlt : 2 * (n % d * c) < d * c ↔ 2 * (n % d) < d := by rw [← Nat.mul_assoc, Nat.mul_lt_mul_right hc]
  have hgt : d * c < 2 * (n % d * c) ↔ d < 2 * (n % d) := by rw [← Nat.mul_assoc, Nat.mul_lt_mul_right hc]
  simp only [roundToEven, hmod, hlt, hgt, Nat.mul_div_mul_right n d hc]

theorem roundedPattern_mul_right (n d : Nat) {c : Nat} (hc : 0 < c) : roundedPattern (n * c) (d * c) = roundedPattern n d := by
  have hshift : roundingShift (n * c) (d * c) = roundingShift n d := by
    rw [roundingShift, roundingShift, Nat.mul_div_mul_right n d hc]
  rw [roundedPattern, roundedPattern, roundedSignificand, roundedSignificand, hshift, Nat.mul_right_comm d c,
    roundToEven_mul_right _ _ hc]

theorem log2_mul_two_pow_div {n d c : Nat} (h : n / d ≠ 0) : (n * 2 ^ c / d).log2 = (n / d).log2 + c := by
  have hd : 0 < d := Nat.pos_of_ne_zero fun h0 => h (by simp [h0])
  have hlow := (Nat.le_div_iff_mul_le hd).mp (Nat.log2_self_le h)
  have hhigh := (Nat.div_lt_iff_lt_mul hd).mp (Nat.lt_log2_self (n := n / d))
  generalize (n / d).log2 = l at hlow hhigh
  have hlow' : 2 ^ (l + c) ≤ n * 2 ^ c / d := by
    rw [Nat.le_div_iff_mul_le hd, pow_add, Nat.mul_right_comm]
    exact Nat.mul_le_mul_right _ hlow
  refine (Nat.log2_eq_iff ((Nat.two_pow_pos _).trans_le hlow').ne').mpr ⟨hlow', ?_⟩
  rw [Nat.div_lt_iff_lt_mul hd, Nat.add_right_comm, pow_add _ _ c, Nat.mul_right_comm]
  exact Nat.mul_lt_mul_of_pos_right hhigh (Nat.two_pow_pos c)

/-- Above the subnormals a power of two moves the exponent field and leaves the rounding as it is. -/
theorem roundedPattern_mul_two_pow {n d : Nat} (c : Nat) (h : 2 ^ 52 ≤ n / d) :
    roundedPattern (n * 2 ^ c) d = roundedPattern n d + c * 2 ^ 52 := by
  have hne : n / d ≠ 0 := by omega
  have hlog : 52 ≤ (n / d).log2 := (Nat.le_log2 hne).mpr h
  have hshift : roundingShift (n * 2 ^ c) d = roundingShift n d + c := by
    rw [roundingShift, roundingShift, log2_mul_two_pow_div hne]
    omega
  rw [roundedPattern, roundedPattern, roundedSignificand, roundedSignificand, hshift, pow_add, ← Nat.mul_assoc d,
    roundToEven_mul_right _ _ (Nat.two_pow_pos c)]
  omega

theorem magUnits_scale : magUnits scale = 255 * unitsPerOne := by decide +kernel

/-- The scaled value of a normal number with the powers of two taken out of the product, so that it can be evaluated on numbers of
61 bits and not of 2000. -/
def scaledPattern (x : Channel) : Nat :=
  min (roundedPattern ((2 ^ 52 + fracField x) * 255) 1 + (expField x - 1) * 2 ^ 52) 0x7FF0000000000000

theorem fmul64_scale_eq {x : Channel} (hs : signBit x = false) (hexp : expField x ≠ 0) :
    fmul64 x scale = BitVec.ofNat 64 (scaledPattern x) := by
  have hsign : (signBit x != signBit scale) = false := by rw [hs]; decide
  have hmag : magUnits x * magUnits scale = (2 ^ 52 + fracField x) * 255 * 2 ^ (expField x - 1) * unitsPerOne := by
    rw [magUnits_scale, magUnits, if_neg hexp]
    ring
  have hcancel := roundedPattern_mul_right ((2 ^ 52 + fracField x) * 255 * 2 ^ (expField x - 1)) 1 unitsPerOne_pos
  rw [Nat.one_mul] at hcancel
  rw [fmul64, rne64, hsign, hmag, rneMagnitude_eq_min, hcancel, roundedPattern_mul_two_pow _ (by rw [Nat.div_one]; omega),
    if_neg Bool.false_ne_true, Nat.add_zero, scaledPattern]

theorem roundToEven_mul_two_pow (n : Nat) {m s : Nat} (h : s ≤ m) : roundToEven (n * 2 ^ m) (2 ^ s) * 2 ^ s = n * 2 ^ m := by
  have hfactor : n * 2 ^ m = n * 2 ^ (m - s) * 2 ^ s := by rw [Nat.mul_assoc, ← pow_add, Nat.sub_add_cancel h]
  rw [hfactor, roundToEven_exact _ _ (Nat.two_pow_pos s)]

/-- A whole number of at most 53 bits, times a power of two that keeps it finite, is not rounded. -/
theorem magUnits_rne64_exact (neg : Bool) {n m : Nat} (hn : n < 2 ^ 53) (h : n * 2 ^ m ≤ magUnits maxFinite) :
    magUnits (rne64 neg (n * 2 ^ m) 1) = n * 2 ^ m := by
  have hshift : roundingShift (n * 2 ^ m) 1 ≤ m := by
    rw [roundingShift, Nat.div_one]
    rcases eq_or_ne (n * 2 ^ m) 0 with h0 | h0
    · simp [h0]
    · have hlog : (n * 2 ^ m).log2 < 53 + m := (Nat.log2_lt h0).mpr <| by
        rw [pow_add]
        exact Nat.mul_lt_mul_of_pos_right hn (Nat.two_pow_pos m)
      omega
  rw [magUnits_rne64 neg one_pos (by rwa [Nat.mul_one]), roundedSignificand, Nat.one_mul, roundToEven_mul_two_pow n hshift]

theorem byte_units_le_maxFinite (k : Byte) : k.toNat * unitsPerOne ≤ magUnits maxFinite := by
  have hk : k.toNat ≤ 255 := by omega
  calc k.toNat * unitsPerOne ≤ 255 * unitsPerOne := Nat.mul_le_mul_right _ hk
    _ ≤ magUnits maxFinite := by decide +kernel

theorem magUnits_channelOfByte (k : Byte) : magUnits (channelOfByte k) = k.toNat * unitsPerOne :=
  magUnits_rne64_exact false (by omega) (byte_units_le_maxFinite k)

theorem signBit_channelOfByte (k : Byte) : signBit (channelOfByte k) = false := signBit_rne64 ..

theorem real_channelOfByte (k : Byte) : real (channelOfByte k) = k.toNat := by
  rw [real_of_signBit_false (signBit_channelOfByte k), magUnits_channelOfByte, Nat.cast_mul,
    mul_div_cancel_right₀ _ unitsPerOne_cast_pos.ne']

/-- Dequantize with the powers of two taken out of the quotient, to be evaluated as `scaledPattern` is. -/
def dequantizePattern (k : Nat) : Nat :=
  if k = 0 then 0 else min (roundedPattern (k * 2 ^ 64) 255 + 1010 * 2 ^ 52) 0x7FF0000000000000

theorem dequantize_eq (k : Byte) : dequantize k = BitVec.ofNat 64 (dequantizePattern k.toNat) := by
  rcases eq_or_ne k 0 with rfl | hk
  · exact dequantize_zero
  have hne : k.toNat ≠ 0 := fun h0 => hk (BitVec.eq_of_toNat_eq h0)
  have hsign : (signBit (channelOfByte k) != signBit scale) = false := by rw [signBit_channelOfByte]; decide
  have hunits : k.toNat * unitsPerOne = k.toNat * 2 ^ 64 * 2 ^ 1010 := by rw [unitsPerOne, Nat.mul_assoc, ← pow_add]
  have hquot : 2 ^ 52 ≤ k.toNat * 2 ^ 64 / 255 := by omega
  rw [dequantize, fdiv64, rne64, hsign, magUnits_channelOfByte, magUnits_scale, rneMagnitude_eq_min,
    roundedPattern_mul_right _ _ unitsPerOne_pos, hunits, roundedPattern_mul_two_pow _ hquot, if_neg Bool.false_ne_true,
    Nat.add_zero, dequantizePattern, if_neg hne]

end Sys2Proof.Machine
end

section
/-! PROOFS. The threshold table (R64), Dequantize against k/255 and the two round trips (R56 to R64), and O16, O17 and O18. -/

namespace Sys2Proof.Machine

/-! ### Normal values below 1 -/

section Normal
variable {x : Channel} (hexp : expField x ≠ 0) (hx : x.toNat < one64.toNat)

include hx in
theorem signBit_of_toNat_lt_one : signBit x = false := by
  have hone : one64.toNat < 2 ^ 63 := by decide
  rw [signBit_eq_decide, decide_eq_false_iff_not]
  omega

include hx in
theorem isFinite_of_toNat_lt_one : isFinite x = true := by
  have hone : one64.toNat = 0x3FF * 2 ^ 52 := by decide
  have hne : expField x ≠ 0x7FF := by rw [expField_eq]; omega
  simpa [isFinite] using hne

include hx in
theorem real_lt_one_of_toNat_lt_one : real x < 1 := by
  rw [← real_one64, ← not_le, real_le_real_iff (by decide) (signBit_of_toNat_lt_one hx)]
  omega

include hexp hx

theorem real_pos_of_normal : 0 < real x := by
  have hmag : 0 < magUnits x := (Nat.two_pow_pos _).trans_le (le_magUnits (Nat.pos_of_ne_zero hexp))
  rw [real_of_signBit_false (signBit_of_toNat_lt_one hx)]
  exact div_pos (by exact_mod_cast hmag) unitsPerOne_cast_pos

theorem quantize_of_normal : quantize x = BitVec.ofNat 8 (roundHalfUp (BitVec.ofNat 64 (scaledPattern x))) := by
  have hfin := isFinite_of_toNat_lt_one hx
  rw [quantize_of_not_isNaN (isNaN_eq_false_of_isFinite hfin),
    clamp01_of_real_mem_Ioo hfin (real_pos_of_normal hexp hx) (real_lt_one_of_toNat_lt_one hx),
    fmul64_scale_eq (signBit_of_toNat_lt_one hx) hexp]

end Normal

/-! ### The rows of the table -/

/-- T_(k+1), the `k`-th row of the table counted from 0 (R64). -/
def threshold (k : Nat) : Channel := thresholds.getD k posZero

theorem length_thresholds : thresholds.length = 255 := by decide +kernel

theorem getElem_thresholds {k : Nat} (hk : k < thresholds.length) : thresholds[k] = threshold k := by
  simp [threshold, hk]

theorem getElem?_thresholds {k : Nat} (hk : k < 255) : thresholds[k]? = some (threshold k) := by
  simp [threshold, length_thresholds, hk]

theorem threshold_of_getElem? {k : Nat} {t : Channel} (h : thresholds[k]? = some t) : k < 255 ∧ threshold k = t := by
  obtain ⟨hk, -⟩ := List.getElem?_eq_some_iff.mp h
  rw [length_thresholds] at hk
  exact ⟨hk, Option.some.inj ((getElem?_thresholds hk).symm.trans h)⟩

/-- What one pass over the table shows of each row. -/
theorem threshold_of_forall_zipIdx {P : Channel → Nat → Prop} (h : ∀ p ∈ thresholds.zipIdx, P p.1 p.2) {k : Nat} (hk : k < 255) :
    P (threshold k) k :=
  h (threshold k, k) (List.mk_mem_zipIdx_iff_getElem?.mpr (getElem?_thresholds hk))

section Rows
variable {k : Nat} (hk : k < 255)
include hk

/-- The thresholds and the patterns before them are normal, and the thresholds are less than 1. -/
theorem threshold_normal :
    expField (threshold k) ≠ 0 ∧ expField (threshold k - 1) ≠ 0 ∧ (threshold k).toNat < one64.toNat :=
  threshold_of_forall_zipIdx (P := fun t _ => expField t ≠ 0 ∧ expField (t - 1) ≠ 0 ∧ t.toNat < one64.toNat)
    (by decide +kernel) hk

/-- R64: each threshold scales to an exact tie. -/
theorem real_scaled_threshold : real (BitVec.ofNat 64 (scaledPattern (threshold k))) = (k + 1 : ℚ) - 1 / 2 :=
  threshold_of_forall_zipIdx (P := fun t k => real (BitVec.ofNat 64 (scaledPattern t)) = (k + 1 : ℚ) - 1 / 2)
    (by decide +kernel) hk

theorem roundHalfUp_scaled_threshold : roundHalfUp (BitVec.ofNat 64 (scaledPattern (threshold k))) = k + 1 ∧
    roundHalfUp (BitVec.ofNat 64 (scaledPattern (threshold k - 1))) = k :=
  threshold_of_forall_zipIdx (P := fun t k => roundHalfUp (BitVec.ofNat 64 (scaledPattern t)) = k + 1 ∧
    roundHalfUp (BitVec.ofNat 64 (scaledPattern (t - 1))) = k) (by decide +kernel) hk

theorem threshold_ne_zero : threshold k ≠ 0 := by
  intro h0
  obtain ⟨hexp, -, -⟩ := threshold_normal hk
  exact hexp (by rw [h0]; decide)

theorem threshold_sub_one_toNat_lt_one : (threshold k - 1).toNat < one64.toNat := by
  obtain ⟨-, -, hlt⟩ := threshold_normal hk
  rw [toNat_sub_one (threshold_ne_zero hk)]
  omega

theorem signBit_threshold : signBit (threshold k) = false := by
  obtain ⟨-, -, hlt⟩ := threshold_normal hk
  exact signBit_of_toNat_lt_one hlt

theorem isFinite_threshold : isFinite (threshold k) = true := by
  obtain ⟨-, -, hlt⟩ := threshold_normal hk
  exact isFinite_of_toNat_lt_one hlt

theorem quantize_threshold : quantize (threshold k) = BitVec.ofNat 8 (k + 1) := by
  obtain ⟨hexp, -, hlt⟩ := threshold_normal hk
  rw [quantize_of_normal hexp hlt, (roundHalfUp_scaled_threshold hk).1]

theorem quantize_threshold_sub_one : quantize (threshold k - 1) = BitVec.ofNat 8 k := by
  obtain ⟨-, hexp, -⟩ := threshold_normal hk
  rw [quantize_of_normal hexp (threshold_sub_one_toNat_lt_one hk), (roundHalfUp_scaled_threshold hk).2]

theorem real_fmul64_threshold : real (fmul64 (threshold k) scale) = (k + 1 : ℚ) - 1 / 2 := by
  obtain ⟨hexp, -, -⟩ := threshold_normal hk
  rw [fmul64_scale_eq (signBit_threshold hk) hexp, real_scaled_threshold hk]

/-- R64: Quantize passes `k` exactly from T_(k+1) on. -/
theorem lt_quantize_iff {x : Channel} (hx : isFinite x = true) : k < (quantize x).toNat ↔ real (threshold k) ≤ real x := by
  have hat : (quantize (threshold k)).toNat = k + 1 := by
    rw [quantize_threshold hk, BitVec.toNat_ofNat, Nat.mod_eq_of_lt (by omega)]
  have hbefore : (quantize (threshold k - 1)).toNat = k := by
    rw [quantize_threshold_sub_one hk, BitVec.toNat_ofNat, Nat.mod_eq_of_lt (by omega)]
  refine ⟨fun h => ?_, fun h => ?_⟩
  · by_contra! hlt
    have hpred := real_le_real_sub_one (threshold_ne_zero hk) (signBit_threshold hk) hlt
    have := quantize_mono_of_isFinite hx (isFinite_of_toNat_lt_one (threshold_sub_one_toNat_lt_one hk)) hpred
    omega
  · have := quantize_mono_of_isFinite (isFinite_threshold hk) hx h
    omega

end Rows

/-! ### Counting thresholds -/

/-- Where the first `n` elements satisfy `p` and no other does, `n` elements do. -/
theorem countP_eq_of_getElem_iff {α : Type} {p : α → Bool} {l : List α} {n : Nat} (hn : n ≤ l.length)
    (h : ∀ (k : Nat) (hk : k < l.length), p l[k] = true ↔ k < n) : l.countP p = n := by
  have htake : (l.take n).countP p = n := by
    rw [List.countP_eq_length.mpr, List.length_take_of_le hn]
    intro a ha
    obtain ⟨i, hi, rfl⟩ := List.mem_take_iff_getElem.mp ha
    exact (h i (by omega)).mpr (by omega)
  have hdrop : (l.drop n).countP p = 0 := by
    refine List.countP_eq_zero.mpr fun a ha => ?_
    obtain ⟨i, hi, rfl⟩ := List.mem_drop_iff_getElem.mp ha
    exact fun hp => absurd ((h (n + i) (by omega)).mp hp) (by omega)
  rw [← List.take_append_drop n l, List.countP_append, htake, hdrop, Nat.add_zero]

theorem isFinite_of_lt_one {x : Channel} (hnan : isNaN x = false) (h : atLeastOne x = false) : isFinite x = true :=
  (isFinite_or_isInf hnan).resolve_right fun hinf => by simp [atLeastOne, hinf] at h

theorem signBit_of_not_atMostZero {x : Channel} (h : atMostZero x = false) : signBit x = false :=
  Bool.eq_false_iff.mpr fun hs => by simp [atMostZero, hs] at h

/-- R64: Quantize counts the thresholds up to the value. -/
theorem quantize_eq_quantizeByThresholds {x : Channel} (hnan : isNaN x = false) :
    (quantize x).toNat = quantizeByThresholds x := by
  rcases clamp01_cases x with ⟨h0, hc⟩ | ⟨h0, h1, hc⟩ | ⟨h0, h1, -⟩ <;> simp only [quantizeByThresholds, h0]
  · rw [quantize_of_clamp01_posZero hnan hc]
    rfl
  · rw [quantize_of_clamp01_one64 hnan hc, h1]
    rfl
  · rw [h1]
    refine (countP_eq_of_getElem_iff (by rw [length_thresholds]; omega) fun k hk => ?_).symm
    have hrow := getElem_thresholds hk
    have hk' : k < 255 := hk.trans_eq length_thresholds
    rw [hrow, decide_eq_true_iff, lt_quantize_iff hk' (isFinite_of_lt_one hnan h1),
      real_le_real_iff (signBit_threshold hk') (signBit_of_not_atMostZero h0)]

/-- Settles O16: the count by `lt_quantize_iff`, and the table row by row. -/
theorem quantizeCountsThresholds : Obligations.QuantizeCountsThresholds := by
  refine ⟨fun x => quantize_eq_quantizeByThresholds, length_thresholds, fun k t ht => ?_⟩
  obtain ⟨hk, rfl⟩ := threshold_of_getElem? ht
  exact ⟨real_fmul64_threshold hk, quantize_threshold hk, quantize_threshold_sub_one hk⟩

/-! ### Dequantize -/

/-- R62: Dequantize is the correctly rounded quotient by 255. -/
theorem dequantize_isNearestEven (k : Byte) : IsNearestEven ((k.toNat : ℚ) / 255) (dequantize k) := by
  have hk : (k.toNat : ℚ) ≤ 255 := by exact_mod_cast Nat.le_of_lt_succ k.isLt
  have hscale : real scale ≠ 0 := by rw [real_scale]; norm_num
  have h := fdiv64_isNearestEven (a := channelOfByte k) hscale
  rw [real_channelOfByte, real_scale] at h
  refine h (le_trans ?_ real_scale_le_maxFinite)
  rw [real_scale, abs_of_nonneg (by positivity)]
  exact (div_le_self (by positivity) (by norm_num)).trans hk

theorem signBit_dequantize (k : Byte) : signBit (dequantize k) = false := by
  rw [dequantize, fdiv64, signBit_rne64, signBit_channelOfByte]
  decide

theorem isFinite_dequantize (k : Byte) : isFinite (dequantize k) = true := by
  obtain ⟨hfin, -⟩ := dequantize_isNearestEven k
  exact hfin

theorem inUnitInterval_dequantize (k : Byte) : InUnitInterval (dequantize k) := by
  have hk : (k.toNat : ℚ) ≤ 255 := by exact_mod_cast Nat.le_of_lt_succ k.isLt
  refine ⟨isFinite_dequantize k, real_nonneg_of_signBit (signBit_dequantize k), ?_⟩
  rw [← real_one64]
  refine (dequantize_isNearestEven k).real_le (by decide) ?_
  rw [real_one64]
  linarith

/-! ### The two round trips -/

theorem dequantize_ofNat {k : Nat} (hk : k < 256) :
    dequantize (BitVec.ofNat 8 k) = BitVec.ofNat 64 (dequantizePattern k) := by
  rw [dequantize_eq, BitVec.toNat_ofNat, Nat.mod_eq_of_lt hk]

/-- The error of Dequantize after Quantize at T_132. -/
def greatestError : ℚ := |real (BitVec.ofNat 64 (dequantizePattern 132)) - real 0x3FE0808080808080#64|

theorem error_at_threshold_132 : |real (dequantize 132) - real 0x3FE0808080808080#64| = greatestError := by
  rw [dequantize_eq]
  rfl

section Rows
variable {k : Nat} (hk : k < 255)
include hk

/-- T_(k+1) stands between Dequantize of `k` and of `k + 1`. -/
theorem dequantize_around_threshold : real (dequantize (BitVec.ofNat 8 k)) < real (threshold k) ∧
    real (threshold k) ≤ real (dequantize (BitVec.ofNat 8 (k + 1))) := by
  rw [dequantize_ofNat (show k < 256 by omega), dequantize_ofNat (show k + 1 < 256 by omega)]
  exact threshold_of_forall_zipIdx (P := fun t k => real (BitVec.ofNat 64 (dequantizePattern k)) < real t ∧
    real t ≤ real (BitVec.ofNat 64 (dequantizePattern (k + 1)))) (by decide +kernel) hk

/-- At T_(k+1), the first value of byte `k + 1`, and before it, at the last value of byte `k`, the error is no greater than at T_132. -/
theorem dequantize_error_at_threshold :
    |real (dequantize (BitVec.ofNat 8 (k + 1))) - real (threshold k)| ≤ greatestError ∧
    |real (dequantize (BitVec.ofNat 8 k)) - real (threshold k - 1)| ≤ greatestError := by
  rw [dequantize_ofNat (show k < 256 by omega), dequantize_ofNat (show k + 1 < 256 by omega)]
  exact threshold_of_forall_zipIdx (P := fun t k =>
    |real (BitVec.ofNat 64 (dequantizePattern (k + 1))) - real t| ≤ greatestError ∧
    |real (BitVec.ofNat 64 (dequantizePattern k)) - real (t - 1)| ≤ greatestError) (by decide +kernel) hk

end Rows

theorem byte_eq_ofNat {q : Byte} {k : Nat} (h : q.toNat = k) : q = BitVec.ofNat 8 k := by
  rw [← h, BitVec.ofNat_toNat, BitVec.setWidth_eq]

/-- Dequantize of a byte stands at or above its own threshold and below the next. -/
theorem quantize_dequantize (q : Byte) : quantize (dequantize q) = q := by
  have hfin := isFinite_dequantize q
  have hle : (quantize (dequantize q)).toNat ≤ q.toNat := by
    rcases (Nat.le_of_lt_succ q.isLt).lt_or_eq with hlt | heq
    · obtain ⟨hbelow, -⟩ := dequantize_around_threshold hlt
      rw [← byte_eq_ofNat rfl] at hbelow
      exact not_lt.mp fun h => hbelow.not_ge ((lt_quantize_iff hlt hfin).mp h)
    · omega
  refine BitVec.eq_of_toNat_eq (hle.antisymm ?_)
  cases hq : q.toNat with
  | zero => exact Nat.zero_le _
  | succ k =>
    have hk : k < 255 := by omega
    obtain ⟨-, habove⟩ := dequantize_around_threshold hk
    rw [← byte_eq_ofNat hq] at habove
    exact (lt_quantize_iff hk hfin).mpr habove

/-- A value of [0, 1] lies between the first and the last value of its byte, and the error there is no greater than at T_132. -/
theorem abs_dequantize_quantize_sub_le {x : Channel} (hx : InUnitInterval x) :
    |real (dequantize (quantize x)) - real x| ≤ greatestError := by
  obtain ⟨hfin, h0, h1⟩ := hx
  have hnonneg : 0 ≤ greatestError := abs_nonneg _
  obtain ⟨lo, hlo, hloerr⟩ : ∃ lo, lo ≤ real x ∧ |real (dequantize (quantize x)) - lo| ≤ greatestError := by
    cases hq : (quantize x).toNat with
    | zero =>
      have hzero : dequantize (BitVec.ofNat 8 0) = posZero := dequantize_zero
      refine ⟨0, h0, ?_⟩
      rw [byte_eq_ofNat hq, hzero, real_posZero, sub_zero, abs_zero]
      exact hnonneg
    | succ k =>
      have hk : k < 255 := by omega
      refine ⟨real (threshold k), (lt_quantize_iff hk hfin).mp (by omega), ?_⟩
      rw [byte_eq_ofNat hq]
      exact (dequantize_error_at_threshold hk).1
  obtain ⟨hi, hhi, hhierr⟩ : ∃ hi, real x ≤ hi ∧ |real (dequantize (quantize x)) - hi| ≤ greatestError := by
    rcases (Nat.le_of_lt_succ (quantize x).isLt).lt_or_eq with hlt | heq
    · have hbelow : real x < real (threshold (quantize x).toNat) :=
        not_le.mp fun h => absurd ((lt_quantize_iff hlt hfin).mpr h) (lt_irrefl _)
      refine ⟨_, real_le_real_sub_one (threshold_ne_zero hlt) (signBit_threshold hlt) hbelow, ?_⟩
      obtain ⟨-, herr⟩ := dequantize_error_at_threshold hlt
      rwa [← byte_eq_ofNat rfl] at herr
    · have hmax : dequantize (BitVec.ofNat 8 255) = one64 := dequantize_max
      refine ⟨1, h1, ?_⟩
      rw [byte_eq_ofNat heq, hmax, real_one64, sub_self, abs_zero]
      exact hnonneg
  exact (abs_le_max_abs_abs (sub_le_sub_left hhi _) (sub_le_sub_left hlo _)).trans (max_le hhierr hloerr)

theorem greatestError_lt : greatestError < 1 / 255 := by decide +kernel

/-- Settles O18: both round trips from where each byte's values begin and end. -/
theorem dequantizeThenQuantizeIsTheIdentityAndBackIsClose :
    Obligations.DequantizeThenQuantizeIsTheIdentityAndBackIsClose := by
  rw [Obligations.DequantizeThenQuantizeIsTheIdentityAndBackIsClose, error_at_threshold_132]
  exact ⟨quantize_dequantize, fun _ => abs_dequantize_quantize_sub_le, quantize_threshold (k := 131) (by decide),
    greatestError_lt⟩

/-- Dequantize strictly increases, because Quantize is monotone and undoes it. -/
theorem real_dequantize_lt {j k : Byte} (h : j.toNat < k.toNat) : real (dequantize j) < real (dequantize k) := by
  by_contra! hle
  have hmono := quantize_mono_of_isFinite (isFinite_dequantize k) (isFinite_dequantize j) hle
  rw [quantize_dequantize, quantize_dequantize] at hmono
  omega

theorem dequantize_one : dequantize 1 = 0x3F70101010101010#64 := by
  rw [dequantize_eq]
  decide +kernel

theorem real_dequantize_one_le {k : Byte} (hk : k ≠ 0) : real (dequantize 1) ≤ real (dequantize k) := by
  rcases eq_or_ne k 1 with rfl | h1
  · exact le_rfl
  · have hlt : (1 : Byte).toNat < k.toNat := by bv_omega
    exact (real_dequantize_lt hlt).le

/-- Settles O17: the correctly rounded quotient; a nonzero byte's result is at least that of 1, which is normal. -/
theorem dequantizeIsTheCorrectlyRoundedQuotient : Obligations.DequantizeIsTheCorrectlyRoundedQuotient := by
  refine ⟨fun k => ⟨dequantize_isNearestEven k, inUnitInterval_dequantize k, signBit_dequantize k⟩, dequantize_zero,
    dequantize_max, dequantize_one, fun k hk => ⟨?_, real_dequantize_one_le hk⟩, fun j k => real_dequantize_lt⟩
  have hle := (real_le_real_iff (signBit_dequantize 1) (signBit_dequantize k)).mp (real_dequantize_one_le hk)
  have hsign : ¬ 2 ^ 63 ≤ (dequantize k).toNat := by simpa [signBit_eq_decide] using signBit_dequantize k
  have hone : (dequantize 1).toNat = 0x3F70101010101010 := by rw [dequantize_one]; rfl
  rw [expField_eq]
  omega

end Sys2Proof.Machine
end

section
/-! PROOFS. PACK and UNPACK one after the other (R71, R75), the sign of a packed word (R70), and O23, O24 and O25. -/

namespace Sys2Proof.Machine

/-! ### UNPACK after PACK -/

theorem wordOperand_of_zext64 {req : Request} {w : Word} (h : req.operand0 = zext64 w) : wordOperand req = w := by
  rw [wordOperand, h, extractLsb'_zext64_low (by decide)]

/-- UNPACK of a word in OPERAND0, from its lanes. -/
theorem execute_unpack_zext64 (w : Word) (o1 o2 o3 : Slot) : execute ⟨1#32, zext64 w, o1, o2, o3⟩ =
    ⟨0, dequantize (extractLanes w).r, dequantize (extractLanes w).g, dequantize (extractLanes w).b,
      dequantize (extractLanes w).a⟩ := by
  rw [execute_of_decodeFrame_ok (decodeFrame_unpack rfl), wordOperand_of_zext64 rfl]
  rfl

theorem execute_pack_eq_respondWord (r g b a : Channel) : execute ⟨0#32, r, g, b, a⟩ = respondWord (packWord r g b a) :=
  execute_of_decodeFrame_ok (decodeFrame_pack rfl)

/-- Channels first: each comes back dequantized from its own byte. -/
theorem execute_unpack_of_pack (r g b a : Channel) : execute ⟨1#32, (execute ⟨0#32, r, g, b, a⟩).result0, 0, 0, 0⟩ =
    ⟨0, dequantize (quantize r), dequantize (quantize g), dequantize (quantize b), dequantize (quantize a)⟩ := by
  have hpack : (execute ⟨0#32, r, g, b, a⟩).result0 = zext64 (packWord r g b a) :=
    congrArg Response.result0 (execute_pack_eq_respondWord r g b a)
  rw [hpack, execute_unpack_zext64, packWord, extractLanes_packLanes]

theorem abs_dequantize_quantize_sub_lt {x : Channel} (hx : InUnitInterval x) :
    |real (dequantize (quantize x)) - real x| < 1 / 255 :=
  (abs_dequantize_quantize_sub_le hx).trans_lt greatestError_lt

theorem dequantize_quantize_of_eq_dequantize {x : Channel} {k : Byte} (h : x = dequantize k) : dequantize (quantize x) = x := by
  rw [h, quantize_dequantize]

/-- Settles O24: each channel takes the round trip of O18 alone. -/
theorem unpackOfPackIsWithinOneStep : Obligations.UnpackOfPackIsWithinOneStep := by
  refine ⟨fun r g b a hr hg hb ha => ?_, fun r g b a k => ?_⟩ <;> rw [execute_unpack_of_pack]
  · exact ⟨abs_dequantize_quantize_sub_lt hr, abs_dequantize_quantize_sub_lt hg, abs_dequantize_quantize_sub_lt hb,
      abs_dequantize_quantize_sub_lt ha⟩
  · exact ⟨dequantize_quantize_of_eq_dequantize, dequantize_quantize_of_eq_dequantize,
      dequantize_quantize_of_eq_dequantize, dequantize_quantize_of_eq_dequantize⟩

/-! ### PACK after UNPACK -/

/-- R72, R74: the lanes of a word, packed, are the word. -/
theorem packLanes_extractLanes (w : Word) :
    packLanes (extractLanes w).r (extractLanes w).g (extractLanes w).b (extractLanes w).a = w := by
  have hword : (w.extractLsb' 24 8 ++ w.extractLsb' 16 8 ++ w.extractLsb' 8 8 ++ w.extractLsb' 0 8 : Word) =
      w.extractLsb' 0 32 := by
    have har : w.extractLsb' 24 8 ++ w.extractLsb' 16 8 = w.extractLsb' 16 16 :=
      BitVec.extractLsb'_append_extractLsb'_eq_extractLsb' rfl
    have harg : w.extractLsb' 16 16 ++ w.extractLsb' 8 8 = w.extractLsb' 8 24 :=
      BitVec.extractLsb'_append_extractLsb'_eq_extractLsb' rfl
    rw [har, harg]
    exact BitVec.extractLsb'_append_extractLsb'_eq_extractLsb' rfl
  rw [packLanes_eq_append, extractLanes_eq, hword, BitVec.extractLsb'_eq_self]

/-- Settles O23: Quantize undoes Dequantize in each lane. -/
theorem packOfUnpackGivesTheWordBack : Obligations.PackOfUnpackGivesTheWordBack := by
  intro w o1 o2 o3 u
  have hu : u = _ := execute_unpack_zext64 w o1 o2 o3
  rw [hu, execute_pack_eq_respondWord, packWord, quantize_dequantize, quantize_dequantize, quantize_dequantize,
    quantize_dequantize, packLanes_extractLanes]
  rfl

/-! ### The sign of a packed word -/

theorem sint32_neg_iff_getLsbD (w : Word) : sint32 w < 0 ↔ w.getLsbD 31 = true := by
  rw [← decide_eq_true_iff (p := sint32 w < 0), sint32, ← BitVec.msb_eq_toInt]
  rfl

theorem sint32_neg_iff_topByte (w : Word) : sint32 w < 0 ↔ 128 ≤ (w.extractLsb' 24 8).toNat := by
  rw [sint32_neg_iff_getLsbD, ← decide_eq_true_iff (p := 128 ≤ _), ← BitVec.msb_eq_decide (w.extractLsb' 24 8)]
  simp [BitVec.msb_eq_getLsbD_last]

theorem threshold_127 : threshold 127 = 0x3FE0000000000000#64 := by decide +kernel

theorem real_half : real 0x3FE0000000000000#64 = 1 / 2 := by decide +kernel

/-- R64 at T_128, which is 0.5. -/
theorem half_le_iff_quantize {x : Channel} (hx : isFinite x = true) : 128 ≤ (quantize x).toNat ↔ 1 / 2 ≤ real x := by
  rw [← real_half, ← threshold_127]
  exact lt_quantize_iff (by decide) hx

theorem eq_inf_of_isInf {x : Channel} (h : isInf x = true) : x = 0x7FF0000000000000#64 ∨ x = 0xFFF0000000000000#64 := by
  obtain ⟨hexp, hfrac⟩ : expField x = 0x7FF ∧ fracField x = 0 := by simpa [isInf] using h
  rw [expField_eq] at hexp
  rw [fracField_eq] at hfrac
  have hlt := x.isLt
  have hcases : x.toNat = 0x7FF0000000000000 ∨ x.toNat = 0xFFF0000000000000 := by omega
  exact hcases.imp BitVec.eq_of_toNat_eq BitVec.eq_of_toNat_eq

theorem quantize_posInf : quantize 0x7FF0000000000000#64 = 255 :=
  quantize_of_clamp01_one64 (by decide) clamp01_posInf

theorem quantize_negInf : quantize 0xFFF0000000000000#64 = 0 :=
  quantize_of_clamp01_posZero (by decide) clamp01_negInf

/-- The upper half of the bytes is reached from 0.5 up, +∞ among them, and from no NaN. -/
theorem quantize_ge_128_iff (x : Channel) : 128 ≤ (quantize x).toNat ↔
    x = 0x7FF0000000000000#64 ∨ (isFinite x = true ∧ 1 / 2 ≤ real x) := by
  cases hnan : isNaN x with
  | true =>
    have hfin : isFinite x ≠ true := fun hf => by simp [isNaN_eq_false_of_isFinite hf] at hnan
    have hinf : x ≠ 0x7FF0000000000000#64 := by rintro rfl; exact absurd hnan (by decide)
    rw [quantize_of_isNaN hnan]
    simp [hfin, hinf]
  | false =>
    rcases isFinite_or_isInf hnan with hfin | hinf
    · have hne : x ≠ 0x7FF0000000000000#64 := by rintro rfl; exact absurd hfin (by decide)
      simp only [half_le_iff_quantize hfin, hne, hfin, false_or, true_and]
    · rcases eq_inf_of_isInf hinf with rfl | rfl
      · rw [quantize_posInf]
        exact iff_of_true (by decide) (.inl rfl)
      · rw [quantize_negInf]
        exact iff_of_false (by decide) (by decide)

/-- Settles O25: the sign of a word is that of its top byte, and PACK's top byte is alpha's. -/
theorem packedWordIsNegativeExactlyFromHalfAlpha : Obligations.PackedWordIsNegativeExactlyFromHalfAlpha := by
  refine ⟨fun w => ⟨sint32_neg_iff_getLsbD w, sint32_neg_iff_topByte w⟩, fun r g b a => ?_⟩
  rw [packWord_eq_append, sint32_append_neg_iff, quantize_ge_128_iff]

end Sys2Proof.Machine
end

section
/-! PROOFS. The assembler's literals and their ranges, comments and the case of letters (R52 to R54), and O42 and O43. -/

namespace Sys2Proof.Machine

/-! ### Lines accepted and rejected -/

theorem assembleLine_eq_none {l : AsmLine} (h : l.wellFormed ≠ true) : assembleLine l = none := if_neg h

theorem wordOk_decimal_iff (n : Int) : (IntLit.decimal n).wordOk = true ↔ -2147483648 ≤ n ∧ n ≤ 4294967295 := by
  simp [IntLit.wordOk]

theorem int32Ok_decimal_iff (n : Int) : (IntLit.decimal n).int32Ok = true ↔ -2147483648 ≤ n ∧ n ≤ 2147483647 := by
  simp [IntLit.int32Ok]

theorem byteOk_decimal_iff (n : Int) : (IntLit.decimal n).byteOk = true ↔ 0 ≤ n ∧ n ≤ 255 := by
  simp [IntLit.byteOk]

theorem hexOf_hex_iff (digits d v : Nat) : (IntLit.hex d v).hexOf digits = true ↔ d = digits ∧ v < 16 ^ digits := by
  simp [IntLit.hexOf]

theorem sint32_bits32 {n : Int} (hlow : -2147483648 ≤ n) (hhigh : n ≤ 2147483647) : sint32 (bits32 n) = n :=
  BitVec.toInt_ofInt_eq_self (by decide) hlow (by omega)

theorem byteValue_decimal_toNat {n : Int} (hlow : 0 ≤ n) (hhigh : n ≤ 255) : ((byteValue (.decimal n)).toNat : Int) = n := by
  rw [byteValue, BitVec.toNat_ofInt]
  omega

theorem wordOk_hex (w : Word) : (IntLit.hex 8 w.toNat).wordOk = true := (hexOf_hex_iff 8 8 _).mpr ⟨rfl, w.isLt⟩

theorem byteOk_hex (k : Byte) : (IntLit.hex 2 k.toNat).byteOk = true := (hexOf_hex_iff 2 2 _).mpr ⟨rfl, k.isLt⟩

theorem wordValue_hex (d : Nat) (w : Word) : wordValue (.hex d w.toNat) = w := by simp [wordValue]

theorem byteValue_hex (d : Nat) (k : Byte) : byteValue (.hex d k.toNat) = k := by simp [byteValue]

/-! ### Runs of digits -/

/-- One digit read after a number, as `readDigits` folds it. -/
def digitStep (digit : Char → Option Nat) (base : Nat) (acc : Option Nat) (c : Char) : Option Nat :=
  acc.bind fun n => (digit c).map fun d => n * base + d

theorem readDigits_eq_foldl (digit : Char → Option Nat) (base : Nat) (cs : List Char) :
    readDigits digit base cs = if cs.isEmpty then none else cs.foldl (digitStep digit base) (some 0) := rfl

theorem foldl_digitStep_none (digit : Char → Option Nat) (base : Nat) (cs : List Char) :
    cs.foldl (digitStep digit base) none = none := by
  induction cs with
  | nil => rfl
  | cons c cs ih => exact ih

/-- Digits below the base read after `n` give a number below `n + 1` shifted by their count. -/
theorem foldl_digitStep_lt {digit : Char → Option Nat} {base : Nat} (hdigit : ∀ c d, digit c = some d → d < base) {cs : List Char}
    {n v : Nat} (h : cs.foldl (digitStep digit base) (some n) = some v) : v < (n + 1) * base ^ cs.length := by
  induction cs generalizing n with
  | nil =>
    obtain rfl : n = v := Option.some.inj h
    simp
  | cons c cs ih =>
    cases hc : digit c with
    | none =>
      have hstep : digitStep digit base (some n) c = none := by simp [digitStep, hc]
      rw [List.foldl_cons, hstep, foldl_digitStep_none] at h
      cases h
    | some d =>
      have hstep : digitStep digit base (some n) c = some (n * base + d) := by simp [digitStep, hc]
      rw [List.foldl_cons, hstep] at h
      calc v < (n * base + d + 1) * base ^ cs.length := ih h
        _ ≤ (n * base + base) * base ^ cs.length := Nat.mul_le_mul_right _ (by have := hdigit c d hc; omega)
        _ = (n + 1) * base ^ (c :: cs).length := by rw [List.length_cons]; ring

theorem decDigit_lt {c : Char} {d : Nat} (h : decDigit c = some d) : d < 10 := by
  have h9 : '9'.toNat = '0'.toNat + 9 := by decide
  unfold decDigit at h
  split at h
  · cases h
    omega
  · cases h

theorem hexDigit_lt (c : Char) (d : Nat) (h : hexDigit c = some d) : d < 16 := by
  have hF : 'F'.toNat = 'A'.toNat + 5 := by decide
  have hf : 'f'.toNat = 'a'.toNat + 5 := by decide
  cases hdec : decDigit c with
  | some d' =>
    obtain rfl : d' = d := by simpa [hexDigit, hdec] using h
    exact (decDigit_lt hdec).trans (by decide)
  | none =>
    simp only [hexDigit, hdec] at h
    split at h
    · cases h
      omega
    · split at h
      · cases h
        omega
      · cases h

theorem readDigits_hexDigit_lt {ds : List Char} {v : Nat} (h : readDigits hexDigit 16 ds = some v) : v < 16 ^ ds.length := by
  rw [readDigits_eq_foldl] at h
  split at h
  · cases h
  · simpa using foldl_digitStep_lt hexDigit_lt h

theorem readHex_cons {ds : List Char} {v : Nat} (h : readDigits hexDigit 16 ds = some v) :
    readHex ('0' :: 'x' :: ds) = some (ds.length, v) := by
  simp [readHex, h]

/-- `f64:` takes exactly sixteen digits. -/
theorem readChanLit_f64 {ds : List Char} {v : Nat} (h : readDigits hexDigit 16 ds = some v) :
    readChanLit ('f' :: '6' :: '4' :: ':' :: '0' :: 'x' :: ds) =
      if ds.length = 16 then some (.f64 (BitVec.ofNat 64 v)) else none := by
  simp only [readChanLit, readHex_cons h]
  split
  case h_1 heq => simp_all
  case h_2 hne =>
    refine (if_neg fun hlen => hne v ?_).symm
    rw [hlen]

/-! ### Decimal channel values -/

/-- The fraction that `decimalChannel` rounds is the decimal number, in units. -/
theorem decimal_fraction_eq (m : Nat) (e : Int) {u : Nat} (hu : (u : ℚ) ≠ 0) :
    ((m * 10 ^ e.toNat * u : ℕ) : ℚ) / (10 ^ (-e).toNat : ℕ) / u = (m : ℚ) * (10 : ℚ) ^ e := by
  push_cast
  cases e with
  | ofNat n => simp [hu]
  | negSucc n =>
    simp only [Int.toNat_negSucc, pow_zero, mul_one, Int.neg_negSucc, Nat.cast_add, Nat.cast_one, Int.toNat_natCast_add_one,
      zpow_negSucc]
    field_simp

theorem chanValue_decimal_isNearestEven (neg : Bool) (m : Nat) (e : Int) (h : (m : ℚ) * (10 : ℚ) ^ e ≤ real maxFinite) :
    IsNearestEven ((if neg then -1 else 1) * ((m : ℚ) * (10 : ℚ) ^ e)) (chanValue (.decimal neg m e)) := by
  have hpos : 0 < 10 ^ (-e).toNat := by positivity
  have heq := decimal_fraction_eq m e unitsPerOne_cast_pos.ne'
  rw [← heq] at h ⊢
  exact rne64_isNearestEven neg hpos (le_magUnits_maxFinite_mul hpos h)

/-- Settles O42: a line is its frame exactly where its literal is in range; digits by `foldl_digitStep_lt`, decimals by O11's rounding. -/
theorem literalsHaveTheirValuesAndRanges : Obligations.LiteralsHaveTheirValuesAndRanges := by
  refine ⟨fun n => ⟨fun h => ?word, fun h => ?notWord⟩, fun n => ⟨fun h => ?int32, fun h => ?notInt32⟩,
    fun n => ⟨fun h => ?byte, fun h => ?notByte⟩,
    fun ds v h => ⟨by simp [readIntLit, readHex_cons h], readDigits_hexDigit_lt h, readChanLit_f64 h⟩,
    fun w => ?hexWord, fun k => ?hexByte, fun d v h => ?notHexWord, fun d v h => ?notHexByte, fun x => rfl,
    ⟨rfl, rfl, rfl⟩, chanValue_decimal_isNearestEven⟩
  case word =>
    have hok := (wordOk_decimal_iff n).mpr h
    exact ⟨assembleLine_of_wellFormed hok, assembleLine_of_wellFormed hok⟩
  case notWord =>
    have hbad : (IntLit.decimal n).wordOk ≠ true := fun hok => by have := (wordOk_decimal_iff n).mp hok; omega
    exact ⟨assembleLine_eq_none hbad, assembleLine_eq_none hbad⟩
  case int32 => exact ⟨assembleLine_of_wellFormed ((int32Ok_decimal_iff n).mpr h), sint32_bits32 h.1 h.2⟩
  case notInt32 => exact assembleLine_eq_none fun hok => by have := (int32Ok_decimal_iff n).mp hok; omega
  case byte =>
    exact ⟨byteValue (.decimal n), byteValue_decimal_toNat h.1 h.2, assembleLine_of_wellFormed ((byteOk_decimal_iff n).mpr h)⟩
  case notByte => exact assembleLine_eq_none fun hok => by have := (byteOk_decimal_iff n).mp hok; omega
  case hexWord =>
    have hok := wordOk_hex w
    have hunpack := assembleLine_of_wellFormed (l := .unpack (.hex 8 w.toNat)) hok
    have halpha := assembleLine_of_wellFormed (l := .extractalpha (.hex 8 w.toNat)) hok
    have hsignfix := assembleLine_of_wellFormed (l := .signfix (.hex 8 w.toNat)) hok
    rw [lineFrame, wordValue_hex] at hunpack
    rw [lineFrame, wordValue_hex] at halpha
    rw [lineFrame, wordValue_hex] at hsignfix
    exact ⟨hunpack, halpha, hsignfix⟩
  case hexByte =>
    have hdequantize := assembleLine_of_wellFormed (l := .dequantize (.hex 2 k.toNat)) (byteOk_hex k)
    rwa [lineFrame, byteValue_hex] at hdequantize
  case notHexWord =>
    have hbad : (IntLit.hex d v).hexOf 8 ≠ true := fun hok => h ((hexOf_hex_iff 8 d v).mp hok).1
    exact ⟨assembleLine_eq_none hbad, assembleLine_eq_none hbad, assembleLine_eq_none hbad⟩
  case notHexByte => exact assembleLine_eq_none fun hok => h ((hexOf_hex_iff 2 d v).mp hok).1

/-! ### Comments and the case of letters -/

theorem splitFirst_comment_fst {text rest : List Char} (h : ';' ∉ text) :
    (splitFirst (fun c => c == ';') (text ++ ';' :: rest)).1 = text ∧ (splitFirst (fun c => c == ';') text).1 = text := by
  have hno : ∀ c ∈ text, (c == ';') = false := fun c hc => beq_eq_false_iff_ne.mpr fun heq => h (heq ▸ hc)
  rw [splitFirst_append_cons rest hno (by decide), splitFirst_of_forall_false hno]
  exact ⟨rfl, rfl⟩

/-- A line is read from its mnemonic in lower case and what stands after it. -/
theorem readLine_eq_of_toLower_eq {x y m n : List Char} {rest : Option (List Char)} (hx : splitFirst isBlank x = (m, rest))
    (hy : splitFirst isBlank y = (n, rest)) (h : m.map Char.toLower = n.map Char.toLower) : readLine x = readLine y := by
  simp only [readLine, hx, hy, h]

/-- Settles O43: the text before a comment is the line; a mnemonic ends at the first blank and is read in lower case. -/
theorem commentsAndLetterCaseDoNotMatter : Obligations.CommentsAndLetterCaseDoNotMatter := by
  refine ⟨fun text comment h => ?_, fun m n h hm hn => ⟨?_, fun b operands hb => ?_⟩⟩
  · obtain ⟨hwith, hwithout⟩ := splitFirst_comment_fst (rest := comment) h
    rw [stripComment, stripComment, hwith, hwithout]
  · exact readLine_eq_of_toLower_eq (splitFirst_of_forall_false hm) (splitFirst_of_forall_false hn) h
  · exact readLine_eq_of_toLower_eq (splitFirst_append_cons operands hm hb) (splitFirst_append_cons operands hn hb) h

end Sys2Proof.Machine
end
